-- ==== Sys2Proof/Word.lean ====
section
/-! DEFINITION. The word types of the engine (R11, R54, R70): the 64-bit command and response words, the
32-bit DATA word and registers, the 24-bit index and the 8-bit opcode and status bytes. -/

namespace Sys2Proof

/-- A command word CW or a response word RW (R70, R71). -/
abbrev Word64 := BitVec 64

/-- A register, or the DATA field of a command or response (R11, R54). -/
abbrev Word32 := BitVec 32

/-- The IDX field of a command: a register number or an array index (R70). -/
abbrev Index := BitVec 24

/-- The OP field of a command, the ST field of a response, or one byte of a serialised word (R52, R70, R71). -/
abbrev Byte := BitVec 8

end Sys2Proof
end

