-- ==== Sys2Proof/Syntax.lean ====
section
/-! DEFINITION. The commands of SHSE-CMD version 1 (R73), one constructor for each row of the opcode table, and the
names of the numbered registers (R51). A constructor carries the whole IDX and DATA fields of its command word, those
the command does not use included: R75 gives a word whose unused field is not zero an effect of its own. -/

namespace Sys2Proof

/-- A command: its opcode, as the constructor, with the fields IDX and DATA of R70. -/
inductive Instr where
  /-- NOP (R140): do nothing -/
  | nop (idx : Index) (data : Word32)
  /-- RESET (R141): return the engine to its reset state -/
  | reset (idx : Index) (data : Word32)
  /-- WRCFG (R150): write configuration register IDX with DATA -/
  | wrcfg (idx : Index) (data : Word32)
  /-- RDREG (R151): read register IDX -/
  | rdreg (idx : Index) (data : Word32)
  /-- START (R142): validate the configuration and enter RUNNING -/
  | start (idx : Index) (data : Word32)
  /-- PAUSE (R145): RUNNING to PAUSED -/
  | pause (idx : Index) (data : Word32)
  /-- RESUME (R146): PAUSED to RUNNING -/
  | resume (idx : Index) (data : Word32)
  /-- QUIT (R147): RUNNING or PAUSED to STOPPED -/
  | quit (idx : Index) (data : Word32)
  /-- PUSH (R100): append the sample DATA to the window -/
  | push (idx : Index) (data : Word32)
  /-- FRAME (R101): analyse a full window -/
  | frame (idx : Index) (data : Word32)
  /-- RDSM (R152): read SM[IDX] -/
  | rdsm (idx : Index) (data : Word32)
  /-- RDDB (R153): read RAWDB[IDX] -/
  | rddb (idx : Index) (data : Word32)
  /-- RDMAG (R154): read MAG[IDX] -/
  | rdmag (idx : Index) (data : Word32)
  /-- RDBLO (R155): read LOWBIN[IDX] -/
  | rdblo (idx : Index) (data : Word32)
  /-- RDBHI (R156): read HIGHBIN[IDX] -/
  | rdbhi (idx : Index) (data : Word32)
  /-- RDFLO (R157): read BFLO[IDX] -/
  | rdflo (idx : Index) (data : Word32)
  /-- RDFHI (R158): read BFHI[IDX] -/
  | rdfhi (idx : Index) (data : Word32)
  deriving DecidableEq, Repr

/-- The IDX field of a command (R70). -/
def Instr.idx : Instr → Index
  | .nop idx _ => idx
  | .reset idx _ => idx
  | .wrcfg idx _ => idx
  | .rdreg idx _ => idx
  | .start idx _ => idx
  | .pause idx _ => idx
  | .resume idx _ => idx
  | .quit idx _ => idx
  | .push idx _ => idx
  | .frame idx _ => idx
  | .rdsm idx _ => idx
  | .rddb idx _ => idx
  | .rdmag idx _ => idx
  | .rdblo idx _ => idx
  | .rdbhi idx _ => idx
  | .rdflo idx _ => idx
  | .rdfhi idx _ => idx

/-- The DATA field of a command (R70). -/
def Instr.data : Instr → Word32
  | .nop _ data => data
  | .reset _ data => data
  | .wrcfg _ data => data
  | .rdreg _ data => data
  | .start _ data => data
  | .pause _ data => data
  | .resume _ data => data
  | .quit _ data => data
  | .push _ data => data
  | .frame _ data => data
  | .rdsm _ data => data
  | .rddb _ data => data
  | .rdmag _ data => data
  | .rdblo _ data => data
  | .rdbhi _ data => data
  | .rdflo _ data => data
  | .rdfhi _ data => data

/-- The seventeen numbered registers (R51). -/
inductive Reg where
  | fftSize | numBands | sampleRate | channels | minDb | alpha | fLo | fHi | cfgFlags
  | mode | status | errCode | errCmdHi | errCmdLo | winLen | pushCnt | frameCnt
  deriving DecidableEq, Repr

end Sys2Proof
end

