-- ==== Sys2Proof/WellFormed.lean ====
section
/-! DEFINITION. Well-formed commands: every field the command does not use is zero (R73, R75). A command that is not
well formed is still a command, with R75's effect. -/

namespace Sys2Proof

/-- Does the command use its IDX field (R73)? -/
def Instr.usesIdx : Instr → Bool
  | .nop _ _ => false
  | .reset _ _ => false
  | .wrcfg _ _ => true
  | .rdreg _ _ => true
  | .start _ _ => false
  | .pause _ _ => false
  | .resume _ _ => false
  | .quit _ _ => false
  | .push _ _ => false
  | .frame _ _ => false
  | .rdsm _ _ => true
  | .rddb _ _ => true
  | .rdmag _ _ => true
  | .rdblo _ _ => true
  | .rdbhi _ _ => true
  | .rdflo _ _ => true
  | .rdfhi _ _ => true

/-- Does the command use its DATA field (R73)? -/
def Instr.usesData : Instr → Bool
  | .nop _ _ => false
  | .reset _ _ => false
  | .wrcfg _ _ => true
  | .rdreg _ _ => false
  | .start _ _ => false
  | .pause _ _ => false
  | .resume _ _ => false
  | .quit _ _ => false
  | .push _ _ => true
  | .frame _ _ => false
  | .rdsm _ _ => false
  | .rddb _ _ => false
  | .rdmag _ _ => false
  | .rdblo _ _ => false
  | .rdbhi _ _ => false
  | .rdflo _ _ => false
  | .rdfhi _ _ => false

/-- R75's check: the fields the command does not use are zero. -/
def Instr.wellFormed (i : Instr) : Bool :=
  (i.usesIdx || i.idx == 0) && (i.usesData || i.data == 0)

end Sys2Proof
end

