-- ==== Sys2Proof/Decode.lean ====
section
/-! DEFINITION. Decoding and encoding of command words (R70, R73, R74), response words (R71, R76), register numbers
(R51) and the byte order of a serialised word (R52). -/

namespace Sys2Proof

/-- The OP field, bits 63:56 of a command word (R70). -/
def opField (w : Word64) : Byte := w.extractLsb' 56 8

/-- The IDX field, bits 55:32 of a command word (R70). -/
def idxField (w : Word64) : Index := w.extractLsb' 32 24

/-- The DATA field, bits 31:0 of a command word (R70). -/
def dataField (w : Word64) : Word32 := w.extractLsb' 0 32

/-- Why bits are no command. -/
inductive DecodeError where
  /-- the OP field is a reserved opcode (R74) -/
  | reservedOpcode (op : Byte)
  /-- fewer than the eight bytes of a command word (R70: there are no other lengths) -/
  | truncated
  deriving DecidableEq, Repr

/-- The command a word is (R70, R73); a reserved opcode is rejected by name (R74). -/
def decode (w : Word64) : Except DecodeError Instr :=
  match (opField w).toNat with
  | 0x00 => .ok (.nop (idxField w) (dataField w))
  | 0x01 => .ok (.reset (idxField w) (dataField w))
  | 0x02 => .ok (.wrcfg (idxField w) (dataField w))
  | 0x03 => .ok (.rdreg (idxField w) (dataField w))
  | 0x04 => .ok (.start (idxField w) (dataField w))
  | 0x05 => .ok (.pause (idxField w) (dataField w))
  | 0x06 => .ok (.resume (idxField w) (dataField w))
  | 0x07 => .ok (.quit (idxField w) (dataField w))
  | 0x10 => .ok (.push (idxField w) (dataField w))
  | 0x11 => .ok (.frame (idxField w) (dataField w))
  | 0x20 => .ok (.rdsm (idxField w) (dataField w))
  | 0x21 => .ok (.rddb (idxField w) (dataField w))
  | 0x22 => .ok (.rdmag (idxField w) (dataField w))
  | 0x23 => .ok (.rdblo (idxField w) (dataField w))
  | 0x24 => .ok (.rdbhi (idxField w) (dataField w))
  | 0x25 => .ok (.rdflo (idxField w) (dataField w))
  | 0x26 => .ok (.rdfhi (idxField w) (dataField w))
  | _ => .error (.reservedOpcode (opField w))

/-- The opcode of a command (R73). -/
def Instr.opcode : Instr → Byte
  | .nop _ _ => 0x00
  | .reset _ _ => 0x01
  | .wrcfg _ _ => 0x02
  | .rdreg _ _ => 0x03
  | .start _ _ => 0x04
  | .pause _ _ => 0x05
  | .resume _ _ => 0x06
  | .quit _ _ => 0x07
  | .push _ _ => 0x10
  | .frame _ _ => 0x11
  | .rdsm _ _ => 0x20
  | .rddb _ _ => 0x21
  | .rdmag _ _ => 0x22
  | .rdblo _ _ => 0x23
  | .rdbhi _ _ => 0x24
  | .rdflo _ _ => 0x25
  | .rdfhi _ _ => 0x26

/-- The word of a command (R70): OP ++ IDX ++ DATA. -/
def encode (i : Instr) : Word64 := i.opcode ++ i.idx ++ i.data

/-- A 64-bit word from its eight bytes, lowest address first: little-endian (R52). -/
def wordOfBytes (b0 b1 b2 b3 b4 b5 b6 b7 : Byte) : Word64 :=
  b7 ++ b6 ++ b5 ++ b4 ++ b3 ++ b2 ++ b1 ++ b0

/-- The eight bytes of a 64-bit word, lowest address first: byte 0 is bits 7:0 (R52). -/
def bytesOfWord (w : Word64) : List Byte :=
  [w.extractLsb' 0 8, w.extractLsb' 8 8, w.extractLsb' 16 8, w.extractLsb' 24 8,
   w.extractLsb' 32 8, w.extractLsb' 40 8, w.extractLsb' 48 8, w.extractLsb' 56 8]

/-- The first command of a serialised command stream, and the bytes after it (R52, R70). Total on any bytes. -/
def decodeBytes : List Byte → Except DecodeError (Instr × List Byte)
  | b0 :: b1 :: b2 :: b3 :: b4 :: b5 :: b6 :: b7 :: rest =>
    match decode (wordOfBytes b0 b1 b2 b3 b4 b5 b6 b7) with
    | .ok i => .ok (i, rest)
    | .error e => .error e
  | _ => .error .truncated

/-- The word whose low `nbits` bits are `w`'s, the bits above them zero. -/
def tableWord (nbits w : Nat) : Word64 := BitVec.ofNat 64 (w % 2 ^ nbits)

/-- The command the decoder reads from a row of the opcode table: its word serialised and decoded. -/
def decodeTableWord (nbits w : Nat) : Option Instr :=
  match decodeBytes (bytesOfWord (tableWord nbits w)) with
  | .ok (i, _) => some i
  | .error _ => none

/-! ## Response words -/

/-- The status codes of a response (R76). -/
inductive Status where
  | ok | notReady | notAccepted | badMode | badIndex | notValid | badValue | cfgInvalid | faultTaken | faulted
  deriving DecidableEq, Repr

/-- The ST field of a status (R76). -/
def Status.code : Status → Byte
  | .ok => 0x00
  | .notReady => 0x01
  | .notAccepted => 0x02
  | .badMode => 0x03
  | .badIndex => 0x04
  | .notValid => 0x05
  | .badValue => 0x06
  | .cfgInvalid => 0x07
  | .faultTaken => 0x80
  | .faulted => 0x81

/-- The response word of R71 to the command word `cw`: ST, then OP echoed in 24 bits, then DATA. -/
def responseWord (cw : Word64) (st : Status) (data : Word32) : Word64 :=
  st.code ++ (opField cw).setWidth 24 ++ data

/-! ## Register numbers -/

/-- The number of a register (R51). -/
def Reg.number : Reg → Index
  | .fftSize => 0x00
  | .numBands => 0x01
  | .sampleRate => 0x02
  | .channels => 0x03
  | .minDb => 0x04
  | .alpha => 0x05
  | .fLo => 0x06
  | .fHi => 0x07
  | .cfgFlags => 0x08
  | .mode => 0x10
  | .status => 0x11
  | .errCode => 0x12
  | .errCmdHi => 0x13
  | .errCmdLo => 0x14
  | .winLen => 0x15
  | .pushCnt => 0x16
  | .frameCnt => 0x17

/-- The register a number names; none for a reserved number (R51). -/
def regOfNumber? (idx : Index) : Option Reg :=
  match idx.toNat with
  | 0x00 => some .fftSize
  | 0x01 => some .numBands
  | 0x02 => some .sampleRate
  | 0x03 => some .channels
  | 0x04 => some .minDb
  | 0x05 => some .alpha
  | 0x06 => some .fLo
  | 0x07 => some .fHi
  | 0x08 => some .cfgFlags
  | 0x10 => some .mode
  | 0x11 => some .status
  | 0x12 => some .errCode
  | 0x13 => some .errCmdHi
  | 0x14 => some .errCmdLo
  | 0x15 => some .winLen
  | 0x16 => some .pushCnt
  | 0x17 => some .frameCnt
  | _ => none

end Sys2Proof
end

