-- ==== Sys2Proof/Config.lean ====
section
/-! DEFINITION. The parameters of the model and its free values: the numerics record NUM (R7), which NUM a machine
has, the three size limits (R6), and the opaque constants that stand for every value the spec does not state. -/

namespace Sys2Proof

/-- The abstract number type F of R7, as plain data. A rational stands for itself in the computed numerics; in any
other numerics it is only a code of a number, whose meaning the record's fields give (log entry 2). -/
abbrev F := Rat

/-- The numerics record NUM of R7 over a number type `V`; the spec's `ofBits` is `Numerics.ofBits?`, built from
`ofFiniteBits` by R10's rule for NaN, infinity and negative zero. `dft n xs k` is bin `k` of the n-point transform. -/
structure Numerics (V : Type) where
  /-- the number a finite binary32 word encodes -/
  ofFiniteBits : Word32 → V
  /-- the binary32 word nearest the number, ties to even -/
  toBits : V → Word32
  /-- the number a natural number is -/
  ofNat : Nat → V
  /-- the number a rational literal is -/
  lit : Rat → V
  pi : V
  add : V → V → V
  sub : V → V → V
  mul : V → V → V
  div : V → V → V
  cos : V → V
  exp : V → V
  ln : V → V
  log10 : V → V
  /-- the modulus of re + i·im -/
  cabs : V → V → V
  /-- the forward discrete Fourier transform of R111: number of points, input, bin; answers (re, im) -/
  dft : Nat → List V → Nat → V × V
  floor : V → Int
  ceil : V → Int
  lt : V → V → Bool
  le : V → V → Bool
  isFinite : V → Bool
  deriving Inhabited

/-- Which NUM a machine has (log entry 2): a parameter of the model, not state of the engine. -/
inductive NumericsId where
  /-- the computed numerics: exact on rationals, irrational results rounded; with a bound `b`, a value of magnitude
  above `b` counts as not finite (so that R101's F_NUMERIC and R143's finiteness check can occur) -/
  | computed (bound : Option Nat)
  /-- any NUM whatever: nothing is known of its fields but that they are total functions (R7) -/
  | free (k : Nat)
  deriving DecidableEq, Repr

/-- The parameters of a machine (R6, R7, R20): they never change while it runs. -/
structure Params where
  numerics : NumericsId
  /-- MAX_FFT, the largest legal FFT_SIZE -/
  maxFft : Nat
  /-- MAX_BANDS, the largest legal NUM_BANDS -/
  maxBands : Nat
  /-- MAX_CH, the largest legal CHANNELS -/
  maxCh : Nat
  deriving DecidableEq, Repr

/-- R6's constraints on the size limits. -/
abbrev Params.Legal (p : Params) : Prop :=
  p.maxFft = 2 ^ p.maxFft.log2 ∧ p.maxFft ≤ 2 ^ 24 ∧ p.maxBands ≤ 2 ^ 24 ∧ p.maxFft * p.maxCh < 2 ^ 32

/-- R6's suggested limits, and the computed numerics with no bound: the parameters of the machine that
`Machine.State.reset` is (log entries 2 and 3, DESIGN CHOICE). -/
def Params.suggested : Params :=
  { numerics := .computed none, maxFft := 65536, maxBands := 1024, maxCh := 8 }

/-- The records NUM that `NumericsId.free` names: a free value (log entry 2). -/
opaque Config.freeNumerics : Nat → Numerics F

/-- What the computed numerics answers for a division by zero: a free value of the dividend (log entry 4). -/
opaque Config.divByZero : Rat → Rat

/-- What the computed numerics answers for the natural logarithm of a number ≤ 0: a free value (log entry 4). -/
opaque Config.lnOutsideDomain : Rat → Rat

/-- What the computed numerics answers for the base-10 logarithm of a number ≤ 0: a free value (log entry 4). -/
opaque Config.log10OutsideDomain : Rat → Rat

/-- The word `toBits` gives a number that rounds beyond the largest finite binary32 number: a free value (log entry 5). -/
opaque Config.toBitsOverflow : Rat → Word32

/-- Whether `toBits` gives a number that is not zero and rounds to zero the word 0x80000000 and not 0x00000000: both
encode 0 and lie equally near, and R7 does not choose. A free value of the number (log entry 16, DESIGN CHOICE). -/
opaque Config.underflowSign : Rat → Bool

/-- What an array of type F holds at an index where it holds no value (R220, U8): a free value (log entry 6). -/
opaque Config.absentValue : Nat → F

/-- What LOWBIN or HIGHBIN holds at an index where it holds no value (R220, U8): a free value (log entry 6). -/
opaque Config.absentBin : Nat → Nat

end Sys2Proof
end

