-- ==== Sys2Proof/Machine/Numerics.lean ====
section
/-! DEFINITION. Arithmetic over the number type F: the binary32 interface format (R10), the conversions and sums every
NUM shares (R7, R9), and the computed numerics, an instance of NUM that Lean evaluates: exact wherever the result is
rational, its irrational results rounded to 96 significant bits (log entry 2). -/

namespace Sys2Proof.Machine

/-! ## binary32 (R10) -/

/-- A word whose biased exponent is 255: an infinity or a NaN (R10). -/
def isNonFiniteWord (w : Word32) : Bool := w.extractLsb' 23 8 == 255#8

/-- The word of negative zero (R7, R10). -/
def negativeZero : Word32 := 0x80000000#32

/-- The number a finite word encodes (R10), normal and subnormal in one formula over 2^(−150). -/
def binary32Value (w : Word32) : Rat :=
  let e := (w.extractLsb' 23 8).toNat
  let f := (w.extractLsb' 0 23).toNat
  let m := (if e = 0 then f else f + 2 ^ 23) * 2 ^ max e 1
  mkRat (if w.getLsbD 31 then -(m : Int) else (m : Int)) (2 ^ 150)

/-- `n / d` rounded to the nearest natural number, ties to even; `d` is not zero. -/
def roundHalfEven (n d : Nat) : Nat :=
  let q := n / d
  let r := n % d
  if 2 * r < d then q else if d < 2 * r then q + 1 else if q % 2 = 0 then q else q + 1

/-- The greatest integer `e` with `2^e ≤ a / d`, for positive `a` and `d`. -/
def floorLog2 (a d : Nat) : Int :=
  let e : Int := (a.log2 : Int) - (d.log2 : Int)
  if (if 0 ≤ e then d * 2 ^ e.toNat ≤ a else d ≤ a * 2 ^ (-e).toNat) then e else e - 1

/-- The magnitude bits of the binary32 word nearest `a / d`, ties to even, before the range check: exponent and fraction
laid side by side, so that a rounding carry moves on into the exponent (R7, R10). -/
def nearestMagnitude (a d : Nat) : Nat :=
  let e := max (floorLog2 a d) (-126)
  let m := if e ≤ 23 then roundHalfEven (a * 2 ^ (23 - e).toNat) d else roundHalfEven a (d * 2 ^ (e - 23).toNat)
  (e + 126).toNat * 2 ^ 23 + m

/-- The finite binary32 word nearest a rational, ties to even; none where the nearest lies beyond the largest finite
word. Zero itself is the word 0x00000000 (R7). DESIGN CHOICE (log entry 16): for a number that is not zero and rounds
to zero, R7 leaves open which of the two zero words it is, and a free value decides. -/
def nearestWord? (q : Rat) : Option Word32 :=
  if q = 0 then some 0
  else
    let m := nearestMagnitude q.num.natAbs q.den
    if 0x7F800000 ≤ m then none
    else if m = 0 then some (if Config.underflowSign q then negativeZero else 0)
    else some (BitVec.ofNat 32 (if q.num < 0 then 0x80000000 + m else m))

/-! ## What every NUM shares -/

/-- The spec's `ofBits` (R7, R10): none for a NaN or an infinity; negative zero is the number of the word 0. -/
def ofBits? {V : Type} (num : Numerics V) (w : Word32) : Option V :=
  if isNonFiniteWord w then none
  else some (num.ofFiniteBits (if w = negativeZero then 0 else w))

/-- A sum in the order of R9: ascending, starting from `lit(0)`; `lit(0)` of nothing (R12). -/
def sum {V : Type} (num : Numerics V) (xs : List V) : V := xs.foldl num.add (num.lit 0)

/-! ## The computed numerics: elementary functions in fixed point

A natural number `x` stands for `x / 2^256`. -/

/-- The number of fraction bits of the fixed-point working format. -/
def fxBits : Nat := 256

/-- 1 in fixed point. -/
def fxOne : Nat := 2 ^ fxBits

/-- π, ln 2 and ln 10 in fixed point, truncated. -/
def fxPi : Nat := 0x3243f6a8885a308d313198a2e03707344a4093822299f31d0082efa98ec4e6c89
def fxLn2 : Nat := 0xb17217f7d1cf79abc9e3b39803f2f6af40f343267298b62d8a0d175b8baafa2a
def fxLn10 : Nat := 0x24d763776aaa2b05ba95b58ae0b4c28a38a3fb3e76977e43a0f187a0807c0b5c4

/-- A fixed-point number as a rational. -/
def fxRat (n : Int) : Rat := mkRat n fxOne

/-- A rational rounded to 96 significant bits, ties to even. -/
def round96 (q : Rat) : Rat :=
  if q = 0 then 0
  else
    let a := q.num.natAbs
    let s := 95 - floorLog2 a q.den
    let m := if 0 ≤ s then roundHalfEven (a * 2 ^ s.toNat) q.den else roundHalfEven a (q.den * 2 ^ (-s).toNat)
    let r := if 0 ≤ s then mkRat m (2 ^ s.toNat) else mkRat (m * 2 ^ (-s).toNat) 1
    if q.num < 0 then -r else r

/-- `pow/(2i+1) + pow·z²/(2i+3) + …`, `fuel` terms: the series of the inverse hyperbolic tangent. -/
def fxAtanhSeries (z2 : Nat) : Nat → Nat → Nat → Nat
  | 0, _, _ => 0
  | fuel + 1, k, pow => pow / k + fxAtanhSeries z2 fuel (k + 2) (pow * z2 / fxOne)

/-- ln of a fixed-point number in [1, 2). -/
def fxLnMantissa (x : Nat) : Nat :=
  let z := (x - fxOne) * fxOne / (x + fxOne)
  2 * fxAtanhSeries (z * z / fxOne) 84 1 z

/-- The natural logarithm of `a / d`, both positive, to about 240 bits: R7's `ln`. -/
def lnRatio (a d : Nat) : Rat :=
  let e := floorLog2 a d
  let m := if 0 ≤ e then a * fxOne / (d * 2 ^ e.toNat) else a * 2 ^ (-e).toNat * fxOne / d
  fxRat ((fxLnMantissa m : Int) + e * (fxLn2 : Int))

/-- `term·(1 + r/k + r²/(k(k+1)) + …)`, `fuel` terms: the series of the exponential. -/
def fxExpSeries (r : Nat) : Nat → Nat → Nat → Nat
  | 0, _, _ => 0
  | fuel + 1, k, term => term + fxExpSeries r fuel (k + 1) (term * r / fxOne / k)

/-- e^q: R7's `exp`. -/
def expRat (q : Rat) : Rat :=
  let x := (q * fxOne).floor
  let k := x / (fxLn2 : Int)
  let m := fxExpSeries (x - k * (fxLn2 : Int)).toNat 60 1 fxOne
  if 0 ≤ k then round96 (fxRat (m * 2 ^ k.toNat)) else round96 (mkRat m (fxOne * 2 ^ (-k).toNat))

/-- `term·(1 − x²/(k(k+1)) + x⁴/(k(k+1)(k+2)(k+3)) − …)`, `fuel` terms: the series of the cosine, for x² ≤ 3. -/
def fxCosSeries (x2 : Nat) : Nat → Nat → Nat → Nat
  | 0, _, _ => 0
  | fuel + 1, k, term => term - fxCosSeries x2 fuel (k + 2) (term * x2 / fxOne / (k * (k + 1)))

/-- The cosine of an angle in [0, π/2] in fixed point, rounded to 128 fraction bits. -/
def fxCos (x : Nat) : Rat := mkRat (roundHalfEven (fxCosSeries (x * x / fxOne) 40 1 fxOne) (2 ^ 128)) (2 ^ 128)

/-- The cosine of a fixed-point angle in [0, 2π). -/
def cosAngle (x : Nat) : Rat :=
  let y := if fxPi < x then 2 * fxPi - x else x
  if fxPi < 2 * y then -fxCos (fxPi - y) else fxCos y

/-- The cosine of an angle in radians: R7's `cos`. -/
def cosRat (q : Rat) : Rat := cosAngle ((q * fxOne).floor % (2 * fxPi : Int)).toNat

/-- The cosine of `a / b` of a full turn. -/
def cosTurns (a b : Nat) : Rat := cosAngle (2 * fxPi * (a % b) / b)

/-- The sine of `a / b` of a full turn: the cosine three quarters of a turn further on. -/
def sinTurns (a b : Nat) : Rat := cosTurns (4 * a + 3 * b) (4 * b)

/-- Newton's iteration for the square root, from a starting point that is not below it. -/
def isqrtFrom (n : Nat) : Nat → Nat → Nat
  | 0, x => x
  | fuel + 1, x => if (x + n / x) / 2 < x then isqrtFrom n fuel ((x + n / x) / 2) else x

/-- The square root of a non-negative rational, exact where it is rational with a small denominator. -/
def sqrtRat (q : Rat) : Rat :=
  let n := q.num.natAbs * q.den * 4 ^ 200
  round96 (mkRat (isqrtFrom n 24 (2 ^ (n.log2 / 2 + 1))) (q.den * 2 ^ 200))

/-- One bin of the forward transform of R111, by the direct sum. -/
def dftBin (n : Nat) (xs : List Rat) (k : Nat) : Rat × Rat :=
  ((xs.zipIdx.map fun p => p.1 * cosTurns (k * p.2) n).foldl (· + ·) 0,
   -(xs.zipIdx.map fun p => p.1 * sinTurns (k * p.2) n).foldl (· + ·) 0)

/-- The computed numerics (log entries 2, 4 and 5): R7's reference meanings, exact on rational results. -/
def computedNumerics (bound : Option Nat) : Numerics F where
  ofFiniteBits := binary32Value
  toBits q := (nearestWord? q).getD (Config.toBitsOverflow q)
  ofNat n := (n : Rat)
  lit q := q
  pi := fxRat fxPi
  add a b := a + b
  sub a b := a - b
  mul a b := a * b
  div a b := if b = 0 then Config.divByZero a else a / b
  cos := cosRat
  exp := expRat
  ln q := if q ≤ 0 then Config.lnOutsideDomain q else lnRatio q.num.natAbs q.den
  log10 q :=
    if q ≤ 0 then Config.log10OutsideDomain q else round96 (lnRatio q.num.natAbs q.den / fxRat fxLn10)
  cabs re im := sqrtRat (re * re + im * im)
  dft := dftBin
  floor q := q.floor
  ceil q := q.ceil
  lt a b := decide (a < b)
  le a b := decide (a ≤ b)
  isFinite q :=
    match bound with
    | none => true
    | some b => decide (-(b : Rat) ≤ q ∧ q ≤ (b : Rat))

/-- The record NUM that a machine's parameter names (R7; log entry 2). -/
def numericsOf : NumericsId → Numerics F
  | .computed bound => computedNumerics bound
  | .free k => Config.freeNumerics k

end Sys2Proof.Machine
end

