-- ==== Sys2Proof/Machine/State.lean ====
section
/-! DEFINITION. The state of the engine (R20), as plain data, its reset (R49, R220), and the reasons a step could stop. -/

namespace Sys2Proof.Machine

/-- Why the machine could stop with a fault of the host's interface. It has no constructor: every command word in every
state has a response and a next state (R190, spec/93_implementation_defined.md "No behaviour of the engine is stuck").
The engine's own faults (R191) are next states in mode FAULT. Safe: nothing is stopped that the spec lets run. -/
inductive Fault where
  deriving DecidableEq, Repr

/-- Why the model could give a command no meaning. -/
inductive Refusal where
  /-- Raised by an arm of `exec` whose command has no meaning yet, and by nothing else; no arm does. Safe. -/
  | notModelled (mnemonic : String)
  deriving DecidableEq, Repr

/-- The values of MODE (R33). -/
inductive Mode where
  | idle | running | paused | stopped | fault
  deriving DecidableEq, Repr

/-- The register value of a mode (R33). -/
def Mode.code : Mode → Word32
  | .idle => 0
  | .running => 1
  | .paused => 2
  | .stopped => 3
  | .fault => 4

/-- What reaches the engine from outside (R170): a command word at the command port, or the hardware reset (R141,
R220). Nothing else does. -/
inductive PortEvent where
  | command (cw : Word64)
  | hardwareReset
  deriving DecidableEq, Repr

/-- The nine configuration registers (R23 to R32). -/
structure Cfg where
  /-- FFT_SIZE (R24) -/
  fftSize : Word32
  /-- NUM_BANDS (R25) -/
  numBands : Word32
  /-- SAMPLE_RATE (R26) -/
  sampleRate : Word32
  /-- CHANNELS (R27) -/
  channels : Word32
  /-- MIN_DB (R28) -/
  minDb : F
  /-- ALPHA (R29) -/
  alpha : F
  /-- F_LO (R30) -/
  fLo : F
  /-- F_HI (R31) -/
  fHi : F
  /-- CFGFLAGS (R32): bit 0 is FHI_NYQ, bits 31:1 read as zero -/
  cfgFlags : Word32
  deriving DecidableEq, Repr

/-- The state of the engine: R20's rows, and three fields of the model's own, `params`, `commandPort` and
`responsePort` (log entries 1 and 2). WINLEN is the length of `win`, and STATUS bit 0 is a function of other state, so
neither is stored (R34, R37). An array that holds no value is empty (R220, U8). -/
structure State where
  /-- the model's own: the parameters NUM, MAX_FFT, MAX_BANDS and MAX_CH (R6, R7); no step changes them -/
  params : Params
  /-- the model's own: what has been sent to the engine and not yet looked at, the next first (R55, R170) -/
  commandPort : List PortEvent
  /-- the model's own: the response words the engine has emitted, the first first (R55, R71) -/
  responsePort : List Word64
  /-- the configuration registers (R23 to R32) -/
  cfg : Cfg
  /-- MODE (R33) -/
  mode : Mode
  /-- STATUS.RES_VALID (R34) -/
  resValid : Bool
  /-- ERRCODE (R35) -/
  errCode : Word32
  /-- ERRCMD_HI (R36) -/
  errCmdHi : Word32
  /-- ERRCMD_LO (R36) -/
  errCmdLo : Word32
  /-- PUSHCNT (R38) -/
  pushCnt : Word32
  /-- FRAMECNT (R39) -/
  frameCnt : Word32
  /-- WIN (R40), the oldest sample first -/
  win : List F
  /-- SM (R41) -/
  sm : List F
  /-- RAWDB (R42) -/
  rawDb : List F
  /-- MAG (R43) -/
  mag : List F
  /-- LOWBIN (R44) -/
  lowBin : List Nat
  /-- HIGHBIN (R44) -/
  highBin : List Nat
  /-- BFLO (R45) -/
  bfLo : List F
  /-- BFHI (R45) -/
  bfHi : List F
  deriving DecidableEq, Repr

/-- The NUM of a machine (R7). -/
def State.num (s : State) : Numerics F := numericsOf s.params.numerics

/-- The reset values of the configuration registers (R24 to R32, R49). -/
def Cfg.reset (num : Numerics F) : Cfg where
  fftSize := 4096
  numBands := 32
  sampleRate := 0
  channels := 0
  minDb := num.lit (-100)
  alpha := num.lit (4 / 5)
  fLo := num.lit 20
  fHi := num.lit 0
  cfgFlags := 1

/-- The machine of the given parameters right after reset (R49, R220), with nothing sent to it and no response given. -/
def State.resetOf (p : Params) : State where
  params := p
  commandPort := []
  responsePort := []
  cfg := Cfg.reset (numericsOf p.numerics)
  mode := .idle
  resValid := false
  errCode := 0
  errCmdHi := 0
  errCmdLo := 0
  pushCnt := 0
  frameCnt := 0
  win := []
  sm := []
  rawDb := []
  mag := []
  lowBin := []
  highBin := []
  bfLo := []
  bfHi := []

/-- The machine right after reset (R49), with the suggested limits of R6 and the computed numerics (log entries 2, 3). -/
def State.reset : State := State.resetOf Params.suggested

end Sys2Proof.Machine
end

