-- ==== Sys2Proof/Machine/Flags.lean ====
section
/-! DEFINITION. The engine's only flags, the STATUS register (R34), and the derived quantities of R47. -/

namespace Sys2Proof.Machine

/-- CAP, the capacity of the window in samples (R40, R47). -/
def Cfg.cap (c : Cfg) : Nat := c.fftSize.toNat * c.channels.toNat

/-- CFGFLAGS.FHI_NYQ (R32). -/
def Cfg.fhiNyq (c : Cfg) : Bool := c.cfgFlags.getLsbD 0

/-- The high analysis bound f_hi (R47): Nyquist, or the register F_HI. -/
def Cfg.highBound (c : Cfg) (num : Numerics F) : F :=
  if c.fhiNyq then num.div (num.ofNat c.sampleRate.toNat) (num.lit 2) else c.fHi

/-- WINLEN (R37): the number of samples in the window. -/
def State.winLen (s : State) : Word32 := BitVec.ofNat 32 s.win.length

/-- STATUS.WIN_FULL (R34). -/
def State.winFull (s : State) : Bool := s.mode != .idle && s.win.length == s.cfg.cap

/-- STATUS (R34, R151): bit 0 WIN_FULL, bit 1 RES_VALID, bits 31:2 zero. -/
def State.status (s : State) : Word32 :=
  (0 : BitVec 30) ++ BitVec.ofBool s.resValid ++ BitVec.ofBool s.winFull

end Sys2Proof.Machine
end

