-- ==== Sys2Proof/Machine/Operands.lean ====
section
/-! DEFINITION. What a command reads and writes: the numbered registers (R51, R72, R150, R151) and the elements of the
arrays (R50, R152 to R158). -/

namespace Sys2Proof.Machine

/-- The 32 bits a read of a register gives (R151); `x[i]` of R12. -/
def State.readReg (s : State) : Reg → Word32
  | .fftSize => s.cfg.fftSize
  | .numBands => s.cfg.numBands
  | .sampleRate => s.cfg.sampleRate
  | .channels => s.cfg.channels
  | .minDb => s.num.toBits s.cfg.minDb
  | .alpha => s.num.toBits s.cfg.alpha
  | .fLo => s.num.toBits s.cfg.fLo
  | .fHi => s.num.toBits s.cfg.fHi
  | .cfgFlags => s.cfg.cfgFlags
  | .mode => s.mode.code
  | .status => s.status
  | .errCode => s.errCode
  | .errCmdHi => s.errCmdHi
  | .errCmdLo => s.errCmdLo
  | .winLen => s.winLen
  | .pushCnt => s.pushCnt
  | .frameCnt => s.frameCnt

/-- Is the register one that WRCFG may name (R51, R150)? -/
def isConfigReg (r : Reg) : Bool := decide (r.number.toNat ≤ 8)

/-- The configuration after a write of a word to a register (R150); none where the word is not a value the register
can hold (status BAD_VALUE). A register that is not a configuration register is never written. -/
def Cfg.write (c : Cfg) (num : Numerics F) (r : Reg) (w : Word32) : Option Cfg :=
  match r with
  | .fftSize => some { c with fftSize := w }
  | .numBands => some { c with numBands := w }
  | .sampleRate => some { c with sampleRate := w }
  | .channels => some { c with channels := w }
  | .minDb => (ofBits? num w).map fun v => { c with minDb := v }
  | .alpha => (ofBits? num w).map fun v => { c with alpha := v }
  | .fLo => (ofBits? num w).map fun v => { c with fLo := v }
  | .fHi => (ofBits? num w).map fun v => { c with fHi := v }
  | .cfgFlags => if w.extractLsb' 1 31 = 0 then some { c with cfgFlags := w } else none
  | .mode | .status | .errCode | .errCmdHi | .errCmdLo | .winLen | .pushCnt | .frameCnt => none

/-- An element of an array of type F (R12); a free value where the array holds none (U8, log entry 6). -/
def elementF (xs : List F) (i : Nat) : F := xs.getD i (Config.absentValue i)

/-- An element of LOWBIN or HIGHBIN as an unsigned word (R155, R156); a free value where the array holds none. -/
def elementBin (xs : List Nat) (i : Nat) : Word32 := BitVec.ofNat 32 (xs.getD i (Config.absentBin i))

end Sys2Proof.Machine
end

