-- ==== Sys2Proof/Machine/Ops.lean ====
section
/-! DEFINITION. The operations the commands share: answering (R71, R77), taking a fault (R194) and leaving FAULT, which
is reset (R196, R220), the checks that stand before every command's own (R193), the window (R40, R100), and the check
order of an array read (R152, R153). -/

namespace Sys2Proof.Machine

/-- ERRCODE values (R191). -/
def ErrCode.none : Word32 := 0x00
def ErrCode.eFftSize : Word32 := 0x01
def ErrCode.eNumBands : Word32 := 0x02
def ErrCode.eSampleRate : Word32 := 0x03
def ErrCode.eChannels : Word32 := 0x04
def ErrCode.eAlpha : Word32 := 0x05
def ErrCode.eFreq : Word32 := 0x06
def ErrCode.fIllegalOp : Word32 := 0x10
def ErrCode.fBadField : Word32 := 0x11
def ErrCode.fBadSample : Word32 := 0x12
def ErrCode.fNumeric : Word32 := 0x13

/-- `respond(ST, DATA)` to the command word `cw` (R12, R71): one response word leaves the engine. -/
def respond (cw : Word64) (st : Status) (data : Word32) (s : State) : State :=
  { s with responsePort := s.responsePort ++ [responseWord cw st data] }

/-- Write MODE (R33). -/
def setMode (m : Mode) (s : State) : State := { s with mode := m }

/-- `raise Fault(cause)` for the command word `cw` (R194): the cause and the command word are saved, the mode becomes
FAULT, FAULT_TAKEN is answered, and nothing else changes. -/
def takeFault (cw : Word64) (cause : Word32) (s : State) : State :=
  respond cw .faultTaken cause
    { s with
      errCode := cause
      errCmdHi := cw.extractLsb' 32 32
      errCmdLo := cw.extractLsb' 0 32
      mode := .fault }

/-- The answer to a command in mode FAULT that is not let through (R193 check 1, R195). -/
def answerFaulted (cw : Word64) (s : State) : State := respond cw .faulted s.errCode s

/-- Reset (R220), the only way out of FAULT (R196): every register and array takes its reset value. The parameters are
not state, and what was sent and what was answered stand outside the engine. -/
def applyReset (s : State) : State :=
  { State.resetOf s.params with commandPort := s.commandPort, responsePort := s.responsePort }

/-- R193 checks 1 and 3 before the body of a command that mode FAULT does not let through. -/
def gate (i : Instr) (s : State) (body : State → State) : State :=
  if s.mode = .fault then answerFaulted (encode i) s
  else if i.wellFormed then body s
  else takeFault (encode i) ErrCode.fBadField s

/-- R193 checks 1 and 3 before the body of RESET and RDREG, which run in mode FAULT too (R141, R151). -/
def gateInFault (i : Instr) (s : State) (body : State → State) : State :=
  if i.wellFormed then body s
  else if s.mode = .fault then answerFaulted (encode i) s
  else takeFault (encode i) ErrCode.fBadField s

/-- A word whose opcode is reserved (R74; R193 checks 1 and 2). -/
def illegalOpcode (cw : Word64) (s : State) : State :=
  if s.mode = .fault then answerFaulted cw s else takeFault cw ErrCode.fIllegalOp s

/-- What the engine finds at its port: the next event and the state once that event is taken from the port (R55); none
where nothing has been sent. -/
def fetch? (s : State) : Option (PortEvent × State) :=
  match s.commandPort with
  | [] => none
  | e :: rest => some (e, { s with commandPort := rest })

/-- Send the engine an event ahead of everything that waits at its port (log entry 1). -/
def sendFirst (e : PortEvent) (s : State) : State := { s with commandPort := e :: s.commandPort }

/-- BAD_MODE with MODE as its data (R77). -/
def answerBadMode (cw : Word64) (s : State) : State := respond cw .badMode s.mode.code s

/-- The window after a push: append at the newest end, and when that exceeds the capacity remove the oldest sample
group (R100). -/
def pushWindow {V : Type} (cap channels : Nat) (win : List V) (v : V) : List V :=
  if cap < (win ++ [v]).length then (win ++ [v]).drop channels else win ++ [v]

/-- Read one element of an array of `len` elements (R152 to R158), `value` being the element's 32 bits; `needsFrame`
for an array that holds no value before a frame (R193 check 6). -/
def readArray (i : Instr) (len : Word32) (needsFrame : Bool) (value : Word32) (s : State) : State :=
  gate i s fun s =>
    if s.mode = .idle then answerBadMode (encode i) s
    else if len.toNat ≤ i.idx.toNat then respond (encode i) .badIndex 0 s
    else if needsFrame && !s.resValid then respond (encode i) .notValid 0 s
    else respond (encode i) .ok value s

end Sys2Proof.Machine
end

