-- ==== Sys2Proof/Machine/BandMapper.lean ====
section
/-! DEFINITION. The Band Mapper: the band table that START computes (R120, R121) and the band average and decibels,
stages of FRAME (R123, R124). Written over any number type. -/

namespace Sys2Proof.Machine

variable {V : Type}

/-- The boundary `exp(log_min + (log_max − log_min)·(k/N))` of R120: the lower boundary of band `k`, and the upper of
band `k − 1`. -/
def bandBoundary (num : Numerics V) (fLo fHi : V) (n k : Nat) : V :=
  num.exp (num.add (num.ln fLo)
    (num.mul (num.sub (num.ln fHi) (num.ln fLo)) (num.div (num.ofNat k) (num.ofNat n))))

/-- BFLO (R120). -/
def bandLows (num : Numerics V) (fLo fHi : V) (n : Nat) : List V :=
  (List.range n).map (bandBoundary num fLo fHi n)

/-- BFHI (R120). -/
def bandHighs (num : Numerics V) (fLo fHi : V) (n : Nat) : List V :=
  (List.range n).map fun b => bandBoundary num fLo fHi n (b + 1)

/-- `clamp(x, 0, M − 1)` as a bin number (R12, R121). -/
def clampBin (m : Nat) (x : Int) : Nat := (min (max x 0) ((m : Int) - 1)).toNat

/-- The position `f / sample_rate · fft_size` of a frequency on the bin axis (R121). -/
def binPosition (num : Numerics V) (sampleRate m : Nat) (f : V) : V :=
  num.mul (num.div f (num.ofNat sampleRate)) (num.ofNat m)

/-- LOWBIN of a band with lower boundary `f` (R121): rounded down, clamped. -/
def lowBinOf (num : Numerics V) (sampleRate m : Nat) (f : V) : Nat :=
  clampBin m (num.floor (binPosition num sampleRate m f))

/-- HIGHBIN of a band with upper boundary `f` (R121): rounded up, clamped. -/
def highBinOf (num : Numerics V) (sampleRate m : Nat) (f : V) : Nat :=
  clampBin m (num.ceil (binPosition num sampleRate m f))

/-- The average of a band over the bins from `lo` up to, not including, `hi`; zero for no bins (R123). -/
def bandAverage (num : Numerics V) (mag : List V) (lo hi : Nat) : V :=
  if lo < hi then num.div (sum num ((mag.drop lo).take (hi - lo))) (num.ofNat (hi - lo)) else num.lit 0

/-- `20·log10(avg + 10⁻¹⁰)` (R124). -/
def decibels (num : Numerics V) (avg : V) : V :=
  num.mul (num.lit 20) (num.log10 (num.add avg (num.lit (1 / 10 ^ 10))))

/-- The raw decibels of every band of a spectrum (R123, R124). -/
def bandMap (num : Numerics V) (lowBin highBin : List Nat) (mag : List V) : List V :=
  List.zipWith (fun lo hi => decibels num (bandAverage num mag lo hi)) lowBin highBin

end Sys2Proof.Machine
end

