-- ==== Sys2Proof/Machine/SpectralTransformer.lean ====
section
/-! DEFINITION. The Spectral Transformer, stages of FRAME (R110 to R112): Hann window, forward transform, normalised
magnitude. The stages are written over any number type, so that the same text is read at NUM_real (R8). -/

namespace Sys2Proof.Machine

variable {V : Type}

/-- `1 − cos((2·π·i)/(M − 1))`, the factor of R110 that depends on the index. -/
def hannFactor (num : Numerics V) (m i : Nat) : V :=
  num.sub (num.lit 1)
    (num.cos (num.div (num.mul (num.mul (num.lit 2) num.pi) (num.ofNat i)) (num.ofNat (m - 1))))

/-- The weight `w(i)` of the Hann window of `m` points (R110). -/
def hannWeight (num : Numerics V) (m i : Nat) : V := num.mul (num.lit (1 / 2)) (hannFactor num m i)

/-- `windowed[i]` from `frame[i]` (R110), evaluated left to right (R9). -/
def hannValue (num : Numerics V) (m i : Nat) (x : V) : V :=
  num.mul (num.mul x (num.lit (1 / 2))) (hannFactor num m i)

/-- The Hann window over a frame of `m` values (R110). -/
def hann (num : Numerics V) (m : Nat) (frame : List V) : List V :=
  List.zipWith (hannValue num m) (List.range m) frame

/-- The forward transform of a windowed frame of `m` values (R111). -/
def transform (num : Numerics V) (m : Nat) (windowed : List V) : List (V × V) :=
  (List.range m).map (num.dft m windowed)

/-- The normalised magnitude of a transform of `m` points (R112). -/
def magnitude (num : Numerics V) (m : Nat) (x : List (V × V)) : List V :=
  x.map fun z => num.div (num.cabs z.1 z.2) (num.ofNat m)

/-- The magnitude spectrum of a frame of `m` values (R110 to R112). -/
def magnitudeSpectrum (num : Numerics V) (m : Nat) (frame : List V) : List V :=
  magnitude num m (transform num m (hann num m frame))

end Sys2Proof.Machine
end

