-- ==== Sys2Proof/Machine/TemporalSmoother.lean ====
section
/-! DEFINITION. The Temporal Smoother (R130, R131). Written over any number type. -/

namespace Sys2Proof.Machine

variable {V : Type}

/-- One smoothing step of one band: `α·old + (1 − α)·new_db` (R130). -/
def smooth (num : Numerics V) (alpha old newDb : V) : V :=
  num.add (num.mul alpha old) (num.mul (num.sub (num.lit 1) alpha) newDb)

/-- One smoothing step of every band, lane by lane (R130). -/
def smoothAll (num : Numerics V) (alpha : V) (sm db : List V) : List V :=
  List.zipWith (smooth num alpha) sm db

/-- The smoothed state of `n` bands that no frame has reached yet (R131). -/
def smoothSeed (n : Nat) (minDb : V) : List V := List.replicate n minDb

end Sys2Proof.Machine
end

