-- ==== Sys2Proof/Machine/FrameExtractor.lean ====
section
/-! DEFINITION. The Frame Extractor family: PUSH (R100) and FRAME (R101), with the downmix (R102) and the pipeline of
stages that FRAME runs. -/

namespace Sys2Proof.Machine

/-- The downmix of a full window of `m` groups of `c` samples (R102): the mean of each group. -/
def downmix {V : Type} (num : Numerics V) (c m : Nat) (win : List V) : List V :=
  (List.range m).map fun i => num.div (sum num ((win.drop (i * c)).take c)) (num.ofNat c)

/-- The tentative results of a FRAME (R101): `mag`, `db` and `sm'`. -/
structure Analysis where
  mag : List F
  db : List F
  sm : List F
  deriving DecidableEq, Repr

/-- The stages of R101 on the window, the band table and the smoothed state that FRAME finds. -/
def analyse (s : State) : Analysis :=
  let m := s.cfg.fftSize.toNat
  let mag := magnitudeSpectrum s.num m (downmix s.num s.cfg.channels.toNat m s.win)
  let db := bandMap s.num s.lowBin s.highBin mag
  { mag := mag, db := db, sm := smoothAll s.num s.cfg.alpha s.sm db }

/-- Is every computed value finite (R101)? -/
def allFinite (num : Numerics F) (a : Analysis) : Bool :=
  a.mag.all num.isFinite && a.db.all num.isFinite && a.sm.all num.isFinite

/-- The state written when a frame is produced (R101): MAG, RAWDB, SM, RES_VALID and FRAMECNT. -/
def storeFrame (a : Analysis) (s : State) : State :=
  { s with mag := a.mag, rawDb := a.db, sm := a.sm, resValid := true, frameCnt := s.frameCnt + 1 }

/-- The state written by an accepted sample (R100): WIN and PUSHCNT. -/
def storeSample (v : F) (s : State) : State :=
  { s with win := pushWindow s.cfg.cap s.cfg.channels.toNat s.win v, pushCnt := s.pushCnt + 1 }

/-- PUSH (R100). -/
def execPush (idx : Index) (data : Word32) (s : State) : Host.Outcome State Fault Refusal :=
  let i := Instr.push idx data
  .next (gate i s fun s =>
    match s.mode with
    | .idle | .stopped => answerBadMode (encode i) s
    | .paused => respond (encode i) .notAccepted s.mode.code s
    | .running | .fault =>
      match ofBits? s.num data with
      | none => takeFault (encode i) ErrCode.fBadSample s
      | some v => respond (encode i) .ok (storeSample v s).winLen (storeSample v s))

/-- FRAME (R101). -/
def execFrame (idx : Index) (data : Word32) (s : State) : Host.Outcome State Fault Refusal :=
  let i := Instr.frame idx data
  .next (gate i s fun s =>
    match s.mode with
    | .idle | .stopped => answerBadMode (encode i) s
    | .paused => respond (encode i) .notAccepted s.mode.code s
    | .running | .fault =>
      if s.win.length ≠ s.cfg.cap then respond (encode i) .notReady s.winLen s
      else if allFinite s.num (analyse s) then
        respond (encode i) .ok (s.frameCnt + 1) (storeFrame (analyse s) s)
      else takeFault (encode i) ErrCode.fNumeric s)

end Sys2Proof.Machine
end

