-- ==== Sys2Proof/Machine/RegisterAccess.lean ====
section
/-! DEFINITION. The register and array access family (R150 to R158). -/

namespace Sys2Proof.Machine

/-- Write the configuration registers (R150). -/
def setCfg (c : Cfg) (s : State) : State := { s with cfg := c }

/-- WRCFG (R150). -/
def execWrcfg (idx : Index) (data : Word32) (s : State) : Host.Outcome State Fault Refusal :=
  let i := Instr.wrcfg idx data
  .next (gate i s fun s =>
    if s.mode ≠ .idle then answerBadMode (encode i) s
    else
      match regOfNumber? idx with
      | none => respond (encode i) .badIndex 0 s
      | some r =>
        if !isConfigReg r then respond (encode i) .badIndex 0 s
        else
          match s.cfg.write s.num r data with
          | none => respond (encode i) .badValue 0 s
          | some c => respond (encode i) .ok data (setCfg c s))

/-- RDREG (R151). -/
def execRdreg (idx : Index) (data : Word32) (s : State) : Host.Outcome State Fault Refusal :=
  let i := Instr.rdreg idx data
  .next (gateInFault i s fun s =>
    match regOfNumber? idx with
    | none => respond (encode i) .badIndex 0 s
    | some r => respond (encode i) .ok (s.readReg r) s)

/-- RDSM (R152). -/
def execRdsm (idx : Index) (data : Word32) (s : State) : Host.Outcome State Fault Refusal :=
  .next (readArray (.rdsm idx data) s.cfg.numBands false (s.num.toBits (elementF s.sm idx.toNat)) s)

/-- RDDB (R153). -/
def execRddb (idx : Index) (data : Word32) (s : State) : Host.Outcome State Fault Refusal :=
  .next (readArray (.rddb idx data) s.cfg.numBands true (s.num.toBits (elementF s.rawDb idx.toNat)) s)

/-- RDMAG (R154). -/
def execRdmag (idx : Index) (data : Word32) (s : State) : Host.Outcome State Fault Refusal :=
  .next (readArray (.rdmag idx data) s.cfg.fftSize true (s.num.toBits (elementF s.mag idx.toNat)) s)

/-- RDBLO (R155). -/
def execRdblo (idx : Index) (data : Word32) (s : State) : Host.Outcome State Fault Refusal :=
  .next (readArray (.rdblo idx data) s.cfg.numBands false (elementBin s.lowBin idx.toNat) s)

/-- RDBHI (R156). -/
def execRdbhi (idx : Index) (data : Word32) (s : State) : Host.Outcome State Fault Refusal :=
  .next (readArray (.rdbhi idx data) s.cfg.numBands false (elementBin s.highBin idx.toNat) s)

/-- RDFLO (R157). -/
def execRdflo (idx : Index) (data : Word32) (s : State) : Host.Outcome State Fault Refusal :=
  .next (readArray (.rdflo idx data) s.cfg.numBands false (s.num.toBits (elementF s.bfLo idx.toNat)) s)

/-- RDFHI (R158). -/
def execRdfhi (idx : Index) (data : Word32) (s : State) : Host.Outcome State Fault Refusal :=
  .next (readArray (.rdfhi idx data) s.cfg.numBands false (s.num.toBits (elementF s.bfHi idx.toNat)) s)

end Sys2Proof.Machine
end

