-- ==== Sys2Proof/Machine/RunControl.lean ====
section
/-! DEFINITION. The run-control family: NOP (R140), RESET (R141), START with its validation and initialisation (R142 to
R144), PAUSE (R145), RESUME (R146) and QUIT (R147). -/

namespace Sys2Proof.Machine

/-- Check 1 of R143: FFT_SIZE is a power of two from 2 up to MAX_FFT. -/
def fftSizeLegal (maxFft : Nat) (x : Word32) : Bool :=
  x != 0 && x &&& (x - 1) == 0 && decide (2 ≤ x.toNat) && decide (x.toNat ≤ maxFft)

/-- The bounds and the order of them that check 6 of R143 asks for. -/
def boundsLegal (num : Numerics F) (c : Cfg) : Bool :=
  num.lt (num.lit 0) c.fLo && num.lt c.fLo (c.highBound num) &&
    num.le (c.highBound num) (num.div (num.ofNat c.sampleRate.toNat) (num.lit 2))

/-- The finiteness of every band boundary, the second part of check 6 of R143. -/
def boundariesFinite (num : Numerics F) (c : Cfg) : Bool :=
  (bandLows num c.fLo (c.highBound num) c.numBands.toNat).all num.isFinite &&
    (bandHighs num c.fLo (c.highBound num) c.numBands.toNat).all num.isFinite

/-- `validate()` (R143): the code of the first check that fails, or 0. -/
def validate (p : Params) (c : Cfg) : Word32 :=
  let num := numericsOf p.numerics
  if !fftSizeLegal p.maxFft c.fftSize then ErrCode.eFftSize
  else if c.numBands = 0 ∨ p.maxBands < c.numBands.toNat then ErrCode.eNumBands
  else if c.sampleRate = 0 then ErrCode.eSampleRate
  else if c.channels = 0 ∨ p.maxCh < c.channels.toNat then ErrCode.eChannels
  else if !(num.le (num.lit 0) c.alpha && num.lt c.alpha (num.lit 1)) then ErrCode.eAlpha
  else if !(boundsLegal num c && boundariesFinite num c) then ErrCode.eFreq
  else 0

/-- `initialise()` (R144, R120, R121, R131). -/
def initialise (s : State) : State :=
  let n := s.cfg.numBands.toNat
  let m := s.cfg.fftSize.toNat
  let rate := s.cfg.sampleRate.toNat
  let lows := bandLows s.num s.cfg.fLo (s.cfg.highBound s.num) n
  let highs := bandHighs s.num s.cfg.fLo (s.cfg.highBound s.num) n
  { s with
    win := []
    bfLo := lows
    bfHi := highs
    lowBin := lows.map (lowBinOf s.num rate m)
    highBin := highs.map (highBinOf s.num rate m)
    sm := smoothSeed n s.cfg.minDb
    rawDb := []
    mag := []
    resValid := false
    pushCnt := 0
    frameCnt := 0 }

/-- Write ERRCODE outside a fault (R142). -/
def setErrCode (e : Word32) (s : State) : State := { s with errCode := e }

/-- The state after an accepted START (R142, R144). -/
def started (s : State) : State := setMode .running (setErrCode ErrCode.none (initialise s))

/-- NOP (R140). -/
def execNop (idx : Index) (data : Word32) (s : State) : Host.Outcome State Fault Refusal :=
  let i := Instr.nop idx data
  .next (gate i s fun s => respond (encode i) .ok 0 s)

/-- RESET (R141). -/
def execReset (idx : Index) (data : Word32) (s : State) : Host.Outcome State Fault Refusal :=
  let i := Instr.reset idx data
  .next (gateInFault i s fun s => respond (encode i) .ok 0 (applyReset s))

/-- START (R142). -/
def execStart (idx : Index) (data : Word32) (s : State) : Host.Outcome State Fault Refusal :=
  let i := Instr.start idx data
  .next (gate i s fun s =>
    if s.mode ≠ .idle then answerBadMode (encode i) s
    else if validate s.params s.cfg ≠ 0 then
      respond (encode i) .cfgInvalid (validate s.params s.cfg) (setErrCode (validate s.params s.cfg) s)
    else respond (encode i) .ok 0 (started s))

/-- PAUSE (R145). -/
def execPause (idx : Index) (data : Word32) (s : State) : Host.Outcome State Fault Refusal :=
  let i := Instr.pause idx data
  .next (gate i s fun s =>
    if s.mode = .running then respond (encode i) .ok 2 (setMode .paused s)
    else answerBadMode (encode i) s)

/-- RESUME (R146). -/
def execResume (idx : Index) (data : Word32) (s : State) : Host.Outcome State Fault Refusal :=
  let i := Instr.resume idx data
  .next (gate i s fun s =>
    if s.mode = .paused then respond (encode i) .ok 1 (setMode .running s)
    else answerBadMode (encode i) s)

/-- QUIT (R147). -/
def execQuit (idx : Index) (data : Word32) (s : State) : Host.Outcome State Fault Refusal :=
  let i := Instr.quit idx data
  .next (gate i s fun s =>
    if s.mode = .running ∨ s.mode = .paused then respond (encode i) .ok 3 (setMode .stopped s)
    else answerBadMode (encode i) s)

end Sys2Proof.Machine
end

