-- ==== Sys2Proof/Machine/Dispatch.lean ====
section
/-! DEFINITION. The meaning of every command, one arm per constructor. -/

namespace Sys2Proof.Machine

def exec (i : Instr) (s : State) : Host.Outcome State Fault Refusal :=
  match i with
  | .nop idx data => Sys2Proof.Machine.execNop idx data s
  | .reset idx data => Sys2Proof.Machine.execReset idx data s
  | .wrcfg idx data => Sys2Proof.Machine.execWrcfg idx data s
  | .rdreg idx data => Sys2Proof.Machine.execRdreg idx data s
  | .start idx data => Sys2Proof.Machine.execStart idx data s
  | .pause idx data => Sys2Proof.Machine.execPause idx data s
  | .resume idx data => Sys2Proof.Machine.execResume idx data s
  | .quit idx data => Sys2Proof.Machine.execQuit idx data s
  | .push idx data => Sys2Proof.Machine.execPush idx data s
  | .frame idx data => Sys2Proof.Machine.execFrame idx data s
  | .rdsm idx data => Sys2Proof.Machine.execRdsm idx data s
  | .rddb idx data => Sys2Proof.Machine.execRddb idx data s
  | .rdmag idx data => Sys2Proof.Machine.execRdmag idx data s
  | .rdblo idx data => Sys2Proof.Machine.execRdblo idx data s
  | .rdbhi idx data => Sys2Proof.Machine.execRdbhi idx data s
  | .rdflo idx data => Sys2Proof.Machine.execRdflo idx data s
  | .rdfhi idx data => Sys2Proof.Machine.execRdfhi idx data s

end Sys2Proof.Machine
end

