-- ==== Sys2Proof/Machine/Step.lean ====
section
/-! DEFINITION. One step: the engine takes the next event of its port (R55, R170). -/

namespace Sys2Proof.Machine

/-- One step. With nothing at the port the engine does nothing (R170). A command word is taken from the port and
executed to completion (R55); a reserved opcode faults (R74). A hardware reset has the effect of RESET without the
response (R141, R220). -/
def step (s : State) : Host.Outcome State Fault Refusal :=
  match fetch? s with
  | none => .next s
  | some (.hardwareReset, s) => .next (applyReset s)
  | some (.command cw, s) =>
    match decode cw with
    | .ok i => exec i s
    | .error _ => .next (illegalOpcode cw s)

/-- `s` with the word of a row of the opcode table the next thing at the command port (log entry 1). -/
def State.withFetchWord (s : State) (nbits w : Nat) : State := sendFirst (.command (tableWord nbits w)) s

end Sys2Proof.Machine
end

