-- ==== Sys2Proof/Machine/Assembler.lean ====
section
/-! DEFINITION. The textual form of command sequences (R78) and the pseudo-instructions (R79). Text is a list of
characters; the engine sees only the words. -/

namespace Sys2Proof.Machine

/-! ## Pseudo-instructions (R79) -/

/-- The pseudo-instructions of R79. -/
inductive Pseudo where
  | pushblk (samples : List Word32)
  | pushrep (sample : Word32) (n : Nat)
  | rdband (b : Index)
  deriving DecidableEq, Repr

/-- The commands a pseudo-instruction expands to (R79). -/
def Pseudo.expand : Pseudo → List Instr
  | .pushblk samples => samples.map (.push 0)
  | .pushrep sample n => List.replicate n (.push 0 sample)
  | .rdband b => [.rdflo b 0, .rdfhi b 0, .rdsm b 0]

/-! ## Numerals (R78) -/

/-- The value of a decimal digit. -/
def decDigit? (c : Char) : Option Nat :=
  if 48 ≤ c.toNat ∧ c.toNat ≤ 57 then some (c.toNat - 48) else none

/-- The value of a hexadecimal digit of either case. -/
def hexDigit? (c : Char) : Option Nat :=
  if 65 ≤ c.toNat ∧ c.toNat ≤ 70 then some (c.toNat - 55)
  else if 97 ≤ c.toNat ∧ c.toNat ≤ 102 then some (c.toNat - 87)
  else decDigit? c

/-- A non-empty run of digits in a base. -/
def digits? (digit? : Char → Option Nat) (base : Nat) (cs : List Char) : Option Nat :=
  match cs with
  | [] => none
  | _ => cs.foldl (fun acc c => acc.bind fun n => (digit? c).map fun d => n * base + d) (some 0)

/-- An integer operand: decimal, or hexadecimal after `0x`. -/
def integer? : List Char → Option Nat
  | '0' :: 'x' :: cs => digits? hexDigit? 16 cs
  | cs => digits? decDigit? 10 cs

/-- Text before and after the first character of the given ones, if one of them occurs. -/
def splitAtFirst (stops : List Char) : List Char → List Char × Option (List Char)
  | [] => ([], none)
  | c :: cs =>
    if stops.contains c then ([], some cs)
    else match splitAtFirst stops cs with
      | (before, after) => (c :: before, after)

/-- An optional sign and what it applies to; true for a minus sign. -/
def signed : List Char → Bool × List Char
  | '-' :: cs => (true, cs)
  | '+' :: cs => (false, cs)
  | cs => (false, cs)

/-- An unsigned decimal number without exponent: digits, and a fraction after a point. DESIGN CHOICE (log entry 12): one
side of the point may have no digits. -/
def mantissa? (cs : List Char) : Option Rat :=
  match splitAtFirst ['.'] cs with
  | (whole, none) => (digits? decDigit? 10 whole).map fun n => (n : Rat)
  | (whole, some frac) => (digits? decDigit? 10 (whole ++ frac)).map fun n => mkRat n (10 ^ frac.length)

/-- A number operand: decimal with an optional sign, fraction and exponent (R78). DESIGN CHOICE (log entry 12): the
exponent's letter may be `e` or `E`, and the exponent may have a sign. -/
def number? (cs : List Char) : Option Rat :=
  match signed cs with
  | (neg, cs) =>
    match splitAtFirst ['e', 'E'] cs with
    | (m, none) => (mantissa? m).map fun q => if neg then -q else q
    | (m, some e) =>
      match signed e with
      | (eneg, e) =>
        (mantissa? m).bind fun q => (digits? decDigit? 10 e).map fun k =>
          let q := if eneg then q / 10 ^ k else q * 10 ^ k
          if neg then -q else q

/-- The binary32 word nearest a number operand, ties to even (R78); a number that is not zero and rounds to zero has the
zero word of log entry 16. -/
def numberWord? (cs : List Char) : Option Word32 := (number? cs).bind nearestWord?

/-- An integer operand that fits a field of `n` bits. -/
def field? (n : Nat) (cs : List Char) : Option (BitVec n) :=
  (integer? cs).bind fun k => if k < 2 ^ n then some (BitVec.ofNat n k) else none

/-! ## Lines (R78) -/

/-- Drop the blanks at both ends. -/
def trim (cs : List Char) : List Char :=
  ((cs.dropWhile fun c => c == ' ' || c == '\t').reverse.dropWhile fun c =>
    c == ' ' || c == '\t' || c == '\r').reverse

/-- The operands of a line: the text between commas. -/
def operands (cs : List Char) : List (List Char) :=
  match trim cs with
  | [] => []
  | cs => (cs.splitOn ',').map trim

/-- The name of a register (R78: its name in `10_state.md`). -/
def regName : Reg → List Char
  | .fftSize => "FFT_SIZE".toList
  | .numBands => "NUM_BANDS".toList
  | .sampleRate => "SAMPLE_RATE".toList
  | .channels => "CHANNELS".toList
  | .minDb => "MIN_DB".toList
  | .alpha => "ALPHA".toList
  | .fLo => "F_LO".toList
  | .fHi => "F_HI".toList
  | .cfgFlags => "CFGFLAGS".toList
  | .mode => "MODE".toList
  | .status => "STATUS".toList
  | .errCode => "ERRCODE".toList
  | .errCmdHi => "ERRCMD_HI".toList
  | .errCmdLo => "ERRCMD_LO".toList
  | .winLen => "WINLEN".toList
  | .pushCnt => "PUSHCNT".toList
  | .frameCnt => "FRAMECNT".toList

/-- Every register, in the order of R51. -/
def allRegs : List Reg :=
  [.fftSize, .numBands, .sampleRate, .channels, .minDb, .alpha, .fLo, .fHi, .cfgFlags,
   .mode, .status, .errCode, .errCmdHi, .errCmdLo, .winLen, .pushCnt, .frameCnt]

/-- A register operand: its name, or its number (R78). -/
def register? (cs : List Char) : Option Index :=
  match allRegs.find? fun r => regName r == cs with
  | some r => some r.number
  | none => field? 24 cs

/-- The value operand of WRCFG: a number for registers 0x04 to 0x07, an integer otherwise (R78). -/
def configValue? (reg : Index) (cs : List Char) : Option Word32 :=
  if 4 ≤ reg.toNat ∧ reg.toNat ≤ 7 then numberWord? cs else field? 32 cs

/-- The commands that take no operand (R78). -/
def plainCommand? (mnemonic : List Char) : Option Instr :=
  if mnemonic = "NOP".toList then some (.nop 0 0)
  else if mnemonic = "RESET".toList then some (.reset 0 0)
  else if mnemonic = "START".toList then some (.start 0 0)
  else if mnemonic = "PAUSE".toList then some (.pause 0 0)
  else if mnemonic = "RESUME".toList then some (.resume 0 0)
  else if mnemonic = "QUIT".toList then some (.quit 0 0)
  else if mnemonic = "FRAME".toList then some (.frame 0 0)
  else none

/-- The commands that take one index, of a band or a bin (R78). -/
def indexCommand? (mnemonic : List Char) (idx : Index) : Option Instr :=
  if mnemonic = "RDSM".toList then some (.rdsm idx 0)
  else if mnemonic = "RDDB".toList then some (.rddb idx 0)
  else if mnemonic = "RDMAG".toList then some (.rdmag idx 0)
  else if mnemonic = "RDBLO".toList then some (.rdblo idx 0)
  else if mnemonic = "RDBHI".toList then some (.rdbhi idx 0)
  else if mnemonic = "RDFLO".toList then some (.rdflo idx 0)
  else if mnemonic = "RDFHI".toList then some (.rdfhi idx 0)
  else none

/-- The pseudo-instruction of a mnemonic and its operands (R79). DESIGN CHOICE (log entry 12): PUSHBLK without operands
stands for no command, and the count of PUSHREP may be hexadecimal. -/
def pseudo? (mnemonic : List Char) (ops : List (List Char)) : Option Pseudo :=
  if mnemonic = "PUSHBLK".toList then (ops.mapM numberWord?).map .pushblk
  else if mnemonic = "PUSHREP".toList then
    match ops with
    | [v, n] => (numberWord? v).bind fun v => (integer? n).map fun n => .pushrep v n
    | _ => none
  else if mnemonic = "RDBAND".toList then
    match ops with
    | [b] => (field? 24 b).map .rdband
    | _ => none
  else none

/-- The commands a mnemonic and its operands stand for. -/
def commands? (mnemonic : List Char) (ops : List (List Char)) : Option (List Instr) :=
  match pseudo? mnemonic ops with
  | some p => some p.expand
  | none =>
    match ops with
    | [] => (plainCommand? mnemonic).map fun i => [i]
    | [a] =>
      if mnemonic = "RDREG".toList then (register? a).map fun r => [.rdreg r 0]
      else if mnemonic = "PUSH".toList then (numberWord? a).map fun v => [.push 0 v]
      else (field? 24 a).bind fun idx => (indexCommand? mnemonic idx).map fun i => [i]
    | [a, b] =>
      if mnemonic = "WRCFG".toList then
        (register? a).bind fun r => (configValue? r b).map fun v => [.wrcfg r v]
      else none
    | _ => none

/-- The command words of one line (R78): none for a line that is no line of the textual form. DESIGN CHOICE (log entry
12): the operand of `.word` may be decimal too. -/
def assembleLine (line : List Char) : Option (List Word64) :=
  match trim (splitAtFirst ['#'] line).1 with
  | [] => some []
  | cs =>
    match splitAtFirst [' ', '\t'] cs with
    | (word, rest) =>
      let ops := operands (rest.getD [])
      if word = ".word".toList then
        match ops with
        | [w] => (field? 64 w).map fun w => [w]
        | _ => none
      else (commands? word ops).map fun is => is.map encode

/-- The command words of a program, its lines in order (R78). -/
def assemble (text : List Char) : Option (List Word64) :=
  ((text.splitOn '\n').mapM assembleLine).map List.flatten

end Sys2Proof.Machine
end

