-- ==== Sys2Proof/Machine/HostProtocol.lean ====
section
/-! DEFINITION. The reference host (R171 to R175, R179): the commands it sends, and its whole run against the engine. The
host is outside the engine (R4, R170); it sends commands to `step`, and `step` does not depend on this file. -/

namespace Sys2Proof.Machine

/-! ## The host's parameters -/

/-- What the reference host is given (R171, R175): the engine configuration it wants, its own parameters, and the
interleaved sample sequence as binary32 words. -/
structure HostParams where
  /-- the configuration the engine is to have -/
  cfg : Cfg
  /-- `hop_size`, in time indices (R172) -/
  hopSize : Nat
  /-- `max_db` (R175) -/
  maxDb : F
  /-- `max_width` (R175) -/
  maxWidth : F
  samples : List Word32
  deriving DecidableEq, Repr

/-- The host with the defaults of R5: `hop_size` is `fft_size/2` (R172), `max_db` is 0 (R175). The spec gives no default
for `max_width`. -/
def HostParams.defaults (num : Numerics F) (cfg : Cfg) (maxWidth : F) (samples : List Word32) : HostParams where
  cfg := cfg
  hopSize := cfg.fftSize.toNat / 2
  maxDb := num.lit 0
  maxWidth := maxWidth
  samples := samples

/-- What R5 calls legal for the host's own parameters: `hop_size` positive, `max_db` above `min_db`. -/
def HostParams.legal (num : Numerics F) (p : HostParams) : Bool :=
  decide (0 < p.hopSize) && num.lt p.cfg.minDb p.maxDb

/-- H, the number of samples pushed in one iteration (R171, R172): a hop counts time indices. -/
def HostParams.samplesPerHop (p : HostParams) : Nat := p.hopSize * p.cfg.channels.toNat

/-! ## The commands the host sends -/

/-- The configuration writes of R171: every register that differs from its reset value, SAMPLE_RATE and CHANNELS always.
DESIGN CHOICE (log entry 15): in the order of their numbers. -/
def configWrites (num : Numerics F) (c : Cfg) : List (Reg × Word32) :=
  let r := Cfg.reset num
  [(Reg.fftSize, c.fftSize, c.fftSize != r.fftSize),
   (Reg.numBands, c.numBands, c.numBands != r.numBands),
   (Reg.sampleRate, c.sampleRate, true),
   (Reg.channels, c.channels, true),
   (Reg.minDb, num.toBits c.minDb, c.minDb != r.minDb),
   (Reg.alpha, num.toBits c.alpha, c.alpha != r.alpha),
   (Reg.fLo, num.toBits c.fLo, c.fLo != r.fLo),
   (Reg.fHi, num.toBits c.fHi, c.fHi != r.fHi),
   (Reg.cfgFlags, c.cfgFlags, c.cfgFlags != r.cfgFlags)].filterMap fun (reg, word, sent) =>
    if sent then some (reg, word) else none

/-- The construction of the pipeline (R171): the configuration writes, then START. -/
def construction (num : Numerics F) (c : Cfg) : List Instr :=
  (configWrites num c).map (fun p => .wrcfg p.1.number p.2) ++ [.start 0 0]

/-- The reference host between two iterations (R171): the read cursor, and whether its state is Paused. -/
structure HostState where
  cursor : Nat
  paused : Bool
  deriving DecidableEq, Repr

/-- The host as the loop begins (R171): cursor 0, state Running. -/
def HostState.initial : HostState := { cursor := 0, paused := false }

/-- The control signals pending at the top of an iteration (R173). -/
structure Signals where
  quit : Bool
  pause : Bool
  resume : Bool
  deriving DecidableEq, Repr

/-- The PAUSE and the RESUME that the top of an iteration sends (R171): the pause check comes before the resume check, so
that both may be sent. -/
def controlCommands (h : HostState) (sig : Signals) : List Instr :=
  (if !h.paused && sig.pause then [.pause 0 0] else []) ++
    (if (h.paused || sig.pause) && sig.resume then [.resume 0 0] else [])

/-- Is the host Paused after the top of an iteration (R171)? -/
def pausedAfter (h : HostState) (sig : Signals) : Bool := (h.paused || sig.pause) && !sig.resume

/-- How an iteration of the loop goes on after its commands (R171, R174). -/
inductive HopNext where
  /-- QUIT was sent: the loop exits -/
  | quits
  /-- the host is paused: it sleeps and polls again -/
  | sleeps
  /-- fewer samples than a hop are left: the loop exits -/
  | finishes
  /-- FRAME was the last command: its answer decides on the readout -/
  | frames
  deriving DecidableEq, Repr

/-- What one iteration sends, the host after it, and how it goes on. -/
structure HopAction where
  commands : List Instr
  after : HostState
  next : HopNext
  deriving DecidableEq, Repr

/-- One iteration of the loop of R171, up to and with FRAME. -/
def hopIteration (p : HostParams) (h : HostState) (sig : Signals) : HopAction :=
  if sig.quit then { commands := [.quit 0 0], after := h, next := .quits }
  else if pausedAfter h sig then
    { commands := controlCommands h sig, after := { h with paused := true }, next := .sleeps }
  else if p.samples.length < h.cursor + p.samplesPerHop then
    { commands := controlCommands h sig, after := { h with paused := false }, next := .finishes }
  else
    { commands := controlCommands h sig
        ++ Pseudo.expand (.pushblk ((p.samples.drop h.cursor).take p.samplesPerHop)) ++ [.frame 0 0]
      after := { cursor := h.cursor + p.samplesPerHop, paused := false }
      next := .frames }

/-- The ST field of a response (R71). -/
def statusField (rw : Word64) : Byte := rw.extractLsb' 56 8

/-- What the host reads after the response of FRAME (R171): SM, BFLO and BFHI of every band, when a frame was
produced. -/
def readout (p : HostParams) (frameResponse : Word64) : List Instr :=
  if statusField frameResponse = Status.ok.code then
    (List.range p.cfg.numBands.toNat).flatMap fun b =>
      [.rdsm (BitVec.ofNat 24 b) 0, .rdflo (BitVec.ofNat 24 b) 0, .rdfhi (BitVec.ofNat 24 b) 0]
  else []

/-- What the host sends after a fault (R174 (c)): it reads ERRCODE and resets. -/
def recovery : List Instr := [.rdreg Reg.errCode.number 0, .reset 0 0]

/-! ## Rendering (R175) -/

/-- `clamp(v, lo, hi)` on numbers (R12). -/
def clamp {V : Type} (num : Numerics V) (v lo hi : V) : V :=
  if num.lt v lo then lo else if num.lt hi v then hi else v

/-- The Renderer's bar length (R175). -/
def barLength {V : Type} (num : Numerics V) (minDb maxDb maxWidth db : V) : V :=
  num.mul (clamp num (num.div (num.sub db minDb) (num.sub maxDb minDb)) (num.lit 0) (num.lit 1)) maxWidth

/-- What the Renderer draws for one band (R175, R176): the words it read, and the length of the bar; no length where the
word read for `db` is no number. -/
structure Bar where
  lowFreq : Word32
  highFreq : Word32
  db : Word32
  length : Option F
  deriving DecidableEq, Repr

/-- The bars of a frame from the responses of its readout (R175): `db` is the answer to RDSM, `min_db` the MIN_DB of the
engine. -/
def render (p : HostParams) (engine : State) : List Word64 → List Bar
  | sm :: lo :: hi :: rest =>
    { lowFreq := dataField lo
      highFreq := dataField hi
      db := dataField sm
      length := (ofBits? engine.num (dataField sm)).map
        (barLength engine.num engine.cfg.minDb p.maxDb p.maxWidth) } :: render p engine rest
  | _ => []

/-! ## The run of the host against the engine -/

/-- Is a response one of a fault (R76)? -/
def isFaultResponse (rw : Word64) : Bool :=
  statusField rw == Status.faultTaken.code || statusField rw == Status.faulted.code

/-- The engine after a list of commands and its responses to them; DESIGN CHOICE (log entry 15): a response of a fault
ends the list. -/
def converse : List Instr → State → State × List Word64
  | [], s => (s, [])
  | i :: is, s =>
    match step (sendFirst (.command (encode i)) s) with
    | .next t =>
      let answered := t.responsePort.drop s.responsePort.length
      if answered.any isFaultResponse then (t, answered)
      else
        match converse is t with
        | (u, later) => (u, answered ++ later)
    | .fault _ | .refused _ => (s, [])

/-- How a run of the host stands (R171, R174). -/
inductive HostEnd where
  /-- START was not answered OK: the host gave up -/
  | startRefused
  /-- R174 (a): the samples are used up -/
  | finished
  /-- R174 (b): QUIT was sent -/
  | quit
  /-- R174 (c): a fault; the ERRCODE the host read before its RESET -/
  | faulted (errCode : Word32)
  /-- the loop has not ended yet: it waits for its next iteration -/
  | running
  deriving DecidableEq, Repr

/-- A run of the host: the engine and the host after it, the frames rendered, and how it stands. -/
structure HostRun where
  engine : State
  host : HostState
  rendered : List (List Bar)
  ending : HostEnd
  deriving DecidableEq, Repr

/-- The end of a run by a fault (R174 (c)): ERRCODE is read, and the engine reset. `h` is the host before the iteration
that met the fault. -/
def recover (h : HostState) (s : State) (rendered : List (List Bar)) : HostRun :=
  match converse recovery s with
  | (t, answers) =>
    { engine := t
      host := h
      rendered := rendered
      ending := .faulted (dataField (answers.headD 0)) }

/-- The loop of R171, one iteration for each element of the list: the signals found pending at its top. -/
def hostLoop (p : HostParams) : List Signals → HostState → State → List (List Bar) → HostRun
  | [], h, s, rendered => { engine := s, host := h, rendered := rendered, ending := .running }
  | sig :: sigs, h, s, rendered =>
    let action := hopIteration p h sig
    match converse action.commands s with
    | (t, answers) =>
      if answers.any isFaultResponse then recover h t rendered
      else
        match action.next with
        | .quits => { engine := t, host := action.after, rendered := rendered, ending := .quit }
        | .finishes => { engine := t, host := action.after, rendered := rendered, ending := .finished }
        | .sleeps => hostLoop p sigs action.after t rendered
        | .frames =>
          match readout p (answers.getLastD 0) with
          | [] => hostLoop p sigs action.after t rendered
          | reads =>
            match converse reads t with
            | (u, values) => hostLoop p sigs action.after u (rendered ++ [render p u values])

/-- The reference host (R171): construction; it gives up where START is not answered OK; then the loop, with cursor 0
and state Running. A sequence shorter than a hop has nothing sent after START (R179). -/
def hostRun (p : HostParams) (signals : List Signals) (s : State) : HostRun :=
  match converse (construction s.num p.cfg) s with
  | (t, answers) =>
    if answers.any isFaultResponse then recover HostState.initial t []
    else if statusField (answers.getLastD 0) ≠ Status.ok.code then
      { engine := t, host := HostState.initial, rendered := [], ending := .startRefused }
    else if p.samples.length < p.samplesPerHop then
      { engine := t, host := HostState.initial, rendered := [], ending := .finished }
    else hostLoop p signals HostState.initial t []

end Sys2Proof.Machine
end

