-- ==== Sys2Proof/Machine/NumReal.lean ====
section
/-! DEFINITION. NUM_real, the reference instance of NUM (R8): F is the real numbers and every field its reference
meaning (R7). `step` never computes with it (real numbers are no plain data); it is what the statements about exact
values are read at, over the same stage functions that FRAME and START run (log entry 2). Its divisions by zero and
logarithms outside their domain are Lean's, and no statement reaches them (log entry 4). -/

namespace Sys2Proof.Machine

/-- The word NUM_real's `toBits` gives a number that rounds beyond the largest finite word: a free value (log entry 5). -/
opaque realToBitsOverflow : ℝ → Word32

/-- Which zero word NUM_real's `toBits` gives a number that is not zero and rounds to zero, true for 0x80000000: a free
value (log entry 16, DESIGN CHOICE). -/
opaque realUnderflowSign : ℝ → Bool

/-- A non-negative real rounded to the nearest natural number, ties to even. -/
noncomputable def roundHalfEvenReal (y : ℝ) : Nat :=
  if y - ⌊y⌋₊ < 1 / 2 then ⌊y⌋₊
  else if 1 / 2 < y - ⌊y⌋₊ then ⌊y⌋₊ + 1
  else if ⌊y⌋₊ % 2 = 0 then ⌊y⌋₊ else ⌊y⌋₊ + 1

/-- The binary32 word nearest a real, ties to even (R7, R10). DESIGN CHOICE: a number beyond the largest finite word, and
the zero word of a number that rounds to zero, are free values (log entries 5 and 16). -/
noncomputable def realToBits (x : ℝ) : Word32 :=
  if x = 0 then 0
  else
    let e := max (Int.log 2 |x|) (-126)
    let m := (e + 126).toNat * 2 ^ 23 + roundHalfEvenReal (|x| * (2 : ℝ) ^ (23 - e))
    if 0x7F800000 ≤ m then realToBitsOverflow x
    else if m = 0 then if realUnderflowSign x then negativeZero else 0
    else BitVec.ofNat 32 (if x < 0 then 0x80000000 + m else m)

/-- NUM_real (R8). -/
noncomputable def realNumerics : Numerics ℝ where
  ofFiniteBits w := (binary32Value w : ℝ)
  toBits := realToBits
  ofNat n := (n : ℝ)
  lit q := (q : ℝ)
  pi := Real.pi
  add a b := a + b
  sub a b := a - b
  mul a b := a * b
  div a b := a / b
  cos := Real.cos
  exp := Real.exp
  ln := Real.log
  log10 := Real.logb 10
  cabs re im := Real.sqrt (re ^ 2 + im ^ 2)
  dft n xs k :=
    ((xs.zipIdx.map fun p => p.1 * Real.cos (2 * Real.pi * k * p.2 / n)).sum,
     -(xs.zipIdx.map fun p => p.1 * Real.sin (2 * Real.pi * k * p.2 / n)).sum)
  floor x := ⌊x⌋
  ceil x := ⌈x⌉
  lt a b := decide (a < b)
  le a b := decide (a ≤ b)
  isFinite _ := true

end Sys2Proof.Machine
end

