-- ==== Sys2Proof/Safety.lean ====
section
/-! DEFINITION. The terms claims are made in: the spec's tables of legal commands (R148) and mode transitions (R149),
the legality of a configuration (R143), the invariant of the engine (R48 with R32, R35, R36, R191), and the named
properties of a NUM (R8). -/

namespace Sys2Proof.Machine

/-- R148's table: the status a command is answered in a mode where it is not run; none where the table says "run". -/
def refusedIn : Instr → Mode → Option Status
  | .nop _ _, .fault => some .faulted
  | .nop _ _, _ => none
  | .reset _ _, _ => none
  | .wrcfg _ _, .idle => none
  | .wrcfg _ _, .fault => some .faulted
  | .wrcfg _ _, _ => some .badMode
  | .rdreg _ _, _ => none
  | .start _ _, .idle => none
  | .start _ _, .fault => some .faulted
  | .start _ _, _ => some .badMode
  | .pause _ _, .running => none
  | .pause _ _, .fault => some .faulted
  | .pause _ _, _ => some .badMode
  | .resume _ _, .paused => none
  | .resume _ _, .fault => some .faulted
  | .resume _ _, _ => some .badMode
  | .quit _ _, .running => none
  | .quit _ _, .paused => none
  | .quit _ _, .fault => some .faulted
  | .quit _ _, _ => some .badMode
  | .push _ _, .running => none
  | .push _ _, .paused => some .notAccepted
  | .push _ _, .fault => some .faulted
  | .push _ _, _ => some .badMode
  | .frame _ _, .running => none
  | .frame _ _, .paused => some .notAccepted
  | .frame _ _, .fault => some .faulted
  | .frame _ _, _ => some .badMode
  | .rdsm _ _, m | .rddb _ _, m | .rdmag _ _, m | .rdblo _ _, m | .rdbhi _ _, m | .rdflo _ _, m | .rdfhi _ _, m =>
    match m with
    | .idle => some .badMode
    | .fault => some .faulted
    | _ => none

/-- The data of a refusal of R148 (R77): ERRCODE with FAULTED, MODE with BAD_MODE and NOT_ACCEPTED. -/
def refusalData (s : State) : Status → Word32
  | .faulted => s.errCode
  | _ => s.mode.code

/-- R149's table: the mode after an event that is not a reset, from each mode. A fault may be taken from any mode but
FAULT, and FAULT is left by nothing but a reset. -/
def modeMayBecome : Mode → Mode → Bool
  | .idle, .idle | .idle, .running | .idle, .fault => true
  | .running, .running | .running, .paused | .running, .stopped | .running, .fault => true
  | .paused, .paused | .paused, .running | .paused, .stopped | .paused, .fault => true
  | .stopped, .stopped | .stopped, .fault => true
  | .fault, .fault => true
  | _, _ => false

/-- The six codes of R191 that START records, and 0. -/
def isRefusalCode (e : Word32) : Bool := decide (e.toNat ≤ 6)

/-- The four codes of R191 that a fault records. -/
def isFaultCode (e : Word32) : Bool := decide (0x10 ≤ e.toNat ∧ e.toNat ≤ 0x13)

/-- The word the host sends for the command RESET (R141): the only well-formed one. -/
def resetWord : Word64 := encode (.reset 0 0)

/-- The command `i` is the next thing at the port. -/
def commandComes (s : State) (i : Instr) : Prop := ∃ rest, s.commandPort = .command (encode i) :: rest

/-- A reset is the next thing at the port: the hardware reset or the command RESET (R220). -/
def resetComes (s : State) : Prop := (∃ rest, s.commandPort = .hardwareReset :: rest) ∨ commandComes s (.reset 0 0)

/-- The opcodes R74 reserves. -/
def isReservedOpcode (op : Byte) : Bool :=
  decide ((0x08 ≤ op.toNat ∧ op.toNat ≤ 0x0F) ∨ (0x12 ≤ op.toNat ∧ op.toNat ≤ 0x1F) ∨ 0x27 ≤ op.toNat)

/-- The number a finite word gives the machine (R7, R10, R100 (d)): negative zero is 0. -/
def finiteValue (s : State) (w : Word32) : F := s.num.ofFiniteBits (if w = negativeZero then 0 else w)

/-- The pipeline stands: the configuration is legal and the arrays START builds have their lengths (R48 a, e, g). -/
structure Constructed (s : State) : Prop where
  legal : validate s.params s.cfg = 0
  sm : s.sm.length = s.cfg.numBands.toNat
  lowBin : s.lowBin.length = s.cfg.numBands.toNat
  highBin : s.highBin.length = s.cfg.numBands.toNat
  bfLo : s.bfLo.length = s.cfg.numBands.toNat
  bfHi : s.bfHi.length = s.cfg.numBands.toNat
  lowBinRange : ∀ b ∈ s.lowBin, b < s.cfg.fftSize.toNat
  highBinRange : ∀ b ∈ s.highBin, b < s.cfg.fftSize.toNat

/-- In IDLE nothing is built and nothing has been counted (R40, R41, R49). -/
structure Unbuilt (s : State) : Prop where
  win : s.win = []
  sm : s.sm = []
  lowBin : s.lowBin = []
  highBin : s.highBin = []
  bfLo : s.bfLo = []
  bfHi : s.bfHi = []
  resValid : s.resValid = false
  pushCnt : s.pushCnt = 0
  frameCnt : s.frameCnt = 0

/-- The invariant of the engine: R48 for the modes it names, with what the spec says of the other modes and of the
error registers. -/
structure EngineInv (s : State) : Prop where
  /-- R6: the limits are legal -/
  params : s.params.Legal
  /-- R32: bits 31:1 of CFGFLAGS read as zero -/
  cfgFlags : s.cfg.cfgFlags.extractLsb' 1 31 = 0
  /-- R48 (b), R103 (a): the window never exceeds its capacity -/
  window : s.win.length ≤ s.cfg.cap
  idle : s.mode = .idle → Unbuilt s
  constructed : s.mode = .running ∨ s.mode = .paused ∨ s.mode = .stopped → Constructed s
  /-- R48 (f): RAWDB and MAG hold values exactly when RES_VALID is 1 -/
  results : if s.resValid then s.rawDb.length = s.cfg.numBands.toNat ∧ s.mag.length = s.cfg.fftSize.toNat
    else s.rawDb = [] ∧ s.mag = []
  /-- R48 (f): FRAMECNT ≠ 0 implies RES_VALID = 1 -/
  counted : s.frameCnt ≠ 0 → s.resValid = true
  /-- R191: the fault codes coincide with mode FAULT -/
  faultCode : s.mode = .fault → isFaultCode s.errCode = true
  /-- R35, R191: in IDLE ERRCODE holds a refusal code or 0 -/
  idleCode : s.mode = .idle → isRefusalCode s.errCode = true
  /-- R142: a successful START cleared ERRCODE -/
  runCode : s.mode = .running ∨ s.mode = .paused ∨ s.mode = .stopped → s.errCode = 0
  /-- R36: nothing but a fault writes ERRCMD -/
  errCmd : s.mode ≠ .fault → s.errCmdHi = 0 ∧ s.errCmdLo = 0

/-- A named property of a NUM (R7, R8): `toBits(ofBits(w)) = w` for every finite word other than negative zero, which
maps to 0. -/
def ToBitsRoundTrips {V : Type} (num : Numerics V) : Prop :=
  ∀ w v, ofBits? num w = some v → num.toBits v = if w = negativeZero then 0 else w

/-- The legality of bounds that R125 and R127 assume of NUM_real: 0 < f_lo < f_hi ≤ sample_rate/2. -/
def RealBounds (fLo fHi : ℝ) (sampleRate : Nat) : Prop := 0 < fLo ∧ fLo < fHi ∧ fHi ≤ (sampleRate : ℝ) / 2

end Sys2Proof.Machine
end

