-- ==== Sys2Proof/Certificates/Slice0/Obligations.lean ====
section
/-! DEFINITION. The statements for the provers. -/

open Sys2Proof Sys2Proof.Machine

/-! ## Encoding -/

/-- R70, R73: every command is read back from its word, with every value of both its fields. -/
def Obligations.DecodeOfEncode : Prop := ∀ i : Instr, decode (encode i) = .ok i

/-- R70, R73: a word that is a command is the word of that command; decoding drops no bit. -/
def Obligations.EncodeOfDecode : Prop := ∀ (w : Word64) (i : Instr), decode w = .ok i → encode i = w

/-- R74: the words that are no command are exactly those with a reserved opcode, and they are rejected by it. -/
def Obligations.ReservedOpcodesRejected : Prop :=
  ∀ w : Word64,
    (isReservedOpcode (opField w) = true → decode w = .error (.reservedOpcode (opField w))) ∧
    (isReservedOpcode (opField w) = false → ∃ i, decode w = .ok i)

/-- R52: a command serialised with byte 0 the least significant is read back, and the bytes after it are left. -/
def Obligations.SerialisedCommandDecodes : Prop :=
  ∀ (i : Instr) (rest : List Byte), decodeBytes (bytesOfWord (encode i) ++ rest) = .ok (i, rest)

/-- R80's worked encodings (marked derived by the spec): the nine command words and the two response words. -/
def Obligations.WorkedEncodingsDecode : Prop :=
  decode 0x0200000000000004#64 = .ok (.wrcfg Reg.fftSize.number 4) ∧
  decode 0x020000053F000000#64 = .ok (.wrcfg Reg.alpha.number 0x3F000000) ∧
  decode 0x0300001000000000#64 = .ok (.rdreg Reg.mode.number 0) ∧
  decode 0x0400000000000000#64 = .ok (.start 0 0) ∧
  decode 0x100000003F800000#64 = .ok (.push 0 0x3F800000) ∧
  decode 0x10000000BF000000#64 = .ok (.push 0 0xBF000000) ∧
  decode 0x1100000000000000#64 = .ok (.frame 0 0) ∧
  decode 0x2000001100000000#64 = .ok (.rdsm 17 0) ∧
  decode 0x2200005D00000000#64 = .ok (.rdmag 93 0) ∧
  responseWord 0x100000003F800000#64 .ok 1 = 0x0000001000000001#64 ∧
  responseWord 0x1100000000000000#64 .notReady 3 = 0x0100001100000003#64

/-- R73, R75: which fields each command leaves unused, and so which words are well formed. -/
def Obligations.WellFormedIffUnusedFieldsZero : Prop :=
  ∀ (idx : Index) (data : Word32),
    ((Instr.nop idx data).wellFormed = true ↔ idx = 0 ∧ data = 0) ∧
    ((Instr.reset idx data).wellFormed = true ↔ idx = 0 ∧ data = 0) ∧
    (Instr.wrcfg idx data).wellFormed = true ∧
    ((Instr.rdreg idx data).wellFormed = true ↔ data = 0) ∧
    ((Instr.start idx data).wellFormed = true ↔ idx = 0 ∧ data = 0) ∧
    ((Instr.pause idx data).wellFormed = true ↔ idx = 0 ∧ data = 0) ∧
    ((Instr.resume idx data).wellFormed = true ↔ idx = 0 ∧ data = 0) ∧
    ((Instr.quit idx data).wellFormed = true ↔ idx = 0 ∧ data = 0) ∧
    ((Instr.push idx data).wellFormed = true ↔ idx = 0) ∧
    ((Instr.frame idx data).wellFormed = true ↔ idx = 0 ∧ data = 0) ∧
    ((Instr.rdsm idx data).wellFormed = true ↔ data = 0) ∧
    ((Instr.rddb idx data).wellFormed = true ↔ data = 0) ∧
    ((Instr.rdmag idx data).wellFormed = true ↔ data = 0) ∧
    ((Instr.rdblo idx data).wellFormed = true ↔ data = 0) ∧
    ((Instr.rdbhi idx data).wellFormed = true ↔ data = 0) ∧
    ((Instr.rdflo idx data).wellFormed = true ↔ data = 0) ∧
    ((Instr.rdfhi idx data).wellFormed = true ↔ data = 0)

/-- R71, R76: the fields of a response word: status, opcode echo under sixteen zero bits, data. -/
def Obligations.ResponseWordFields : Prop :=
  ∀ (cw : Word64) (st : Status) (d : Word32),
    (responseWord cw st d).extractLsb' 56 8 = st.code ∧
    (responseWord cw st d).extractLsb' 40 16 = (0 : BitVec 16) ∧
    (responseWord cw st d).extractLsb' 32 8 = cw.extractLsb' 56 8 ∧
    (responseWord cw st d).extractLsb' 0 32 = d

/-! ## The step -/

/-- R55: a command word at the port is taken from it and executed, when it is a command. -/
def Obligations.StepRunsDecodedCommand : Prop :=
  ∀ (s : State) (cw : Word64) (rest : List PortEvent) (i : Instr),
    s.commandPort = .command cw :: rest → decode cw = .ok i → step s = exec i { s with commandPort := rest }

/-- R74: a reserved opcode faults, or in FAULT is answered FAULTED. -/
def Obligations.ReservedOpcodeFaults : Prop :=
  ∀ (s : State) (cw : Word64) (rest : List PortEvent),
    s.commandPort = .command cw :: rest → isReservedOpcode (opField cw) = true →
    (s.mode ≠ .fault → step s = .next
      { s with
        commandPort := rest
        errCode := 0x10
        errCmdHi := cw.extractLsb' 32 32
        errCmdLo := cw.extractLsb' 0 32
        mode := .fault
        responsePort := s.responsePort ++ [responseWord cw .faultTaken 0x10] }) ∧
    (s.mode = .fault → step s = .next
      { s with commandPort := rest, responsePort := s.responsePort ++ [responseWord cw .faulted s.errCode] })

/-- R190, R71: every command word in every state completes with one response and one only, and is used up. -/
def Obligations.EveryCommandAnsweredOnce : Prop :=
  ∀ (s : State) (cw : Word64) (rest : List PortEvent), s.commandPort = .command cw :: rest →
    ∃ t st d, step s = .next t ∧ t.commandPort = rest ∧ t.responsePort = s.responsePort ++ [responseWord cw st d]

/-- R55: a sequence of command words is executed to its end, with one response for each, in order. -/
def Obligations.ResponsesFollowCommands : Prop :=
  ∀ (s : State) (cws : List Word64), s.commandPort = cws.map .command →
    ∃ t rws, Host.Core.run core cws.length s = .next t ∧ t.commandPort = [] ∧
      t.responsePort = s.responsePort ++ rws ∧
      rws.map (fun rw => rw.extractLsb' 32 8) = cws.map (fun cw => cw.extractLsb' 56 8)

/-- R170: with nothing at its port the engine does nothing. -/
def Obligations.NothingHappensBetweenCommands : Prop := ∀ s : State, s.commandPort = [] → step s = .next s

/-- R7, R20 (log entry 2): the parameters never change. -/
def Obligations.ParametersNeverChange : Prop := ∀ s t : State, step s = .next t → t.params = s.params

/-! ## Reset -/

/-- R49: the reset value of every item, and that the arrays which hold no value cannot be read. -/
def Obligations.ResetValues : Prop :=
  ∀ p : Params,
    let s := State.resetOf p
    let num := numericsOf p.numerics
    s.cfg.fftSize = 4096 ∧ s.cfg.numBands = 32 ∧ s.cfg.sampleRate = 0 ∧ s.cfg.channels = 0 ∧
    s.cfg.minDb = num.lit (-100) ∧ s.cfg.alpha = num.lit (4 / 5) ∧ s.cfg.fLo = num.lit 20 ∧ s.cfg.fHi = num.lit 0 ∧
    s.cfg.cfgFlags = 1 ∧ s.mode = .idle ∧ s.status = 0 ∧ s.errCode = 0 ∧ s.errCmdHi = 0 ∧ s.errCmdLo = 0 ∧
    s.winLen = 0 ∧ s.pushCnt = 0 ∧ s.frameCnt = 0 ∧ s.win = [] ∧
    ∀ idx : Index, ∀ i ∈ [Instr.rdsm idx 0, .rddb idx 0, .rdmag idx 0, .rdblo idx 0, .rdbhi idx 0, .rdflo idx 0,
        .rdfhi idx 0],
      exec i s = .next { s with responsePort := s.responsePort ++ [responseWord (encode i) .badMode 0] }

/-- R220: the RESET command in every mode, and the hardware reset, put the machine in its reset state. -/
def Obligations.ResetHappensInBothWays : Prop :=
  (∀ s : State, exec (.reset 0 0) s = .next
    { State.resetOf s.params with
      commandPort := s.commandPort
      responsePort := s.responsePort ++ [responseWord 0x0100000000000000#64 .ok 0] }) ∧
  (∀ (s : State) (rest : List PortEvent), s.commandPort = .hardwareReset :: rest → step s = .next
    { State.resetOf s.params with commandPort := rest, responsePort := s.responsePort })

/-! ## Faults -/

/-- R75: a command whose unused field is not zero faults in every mode but FAULT, with R194's entry; WRCFG has no
unused field. -/
def Obligations.UnusedFieldFaults : Prop :=
  (∀ (i : Instr) (s : State), i.wellFormed = false → s.mode ≠ .fault → exec i s = .next
    { s with
      errCode := 0x11
      errCmdHi := (encode i).extractLsb' 32 32
      errCmdLo := (encode i).extractLsb' 0 32
      mode := .fault
      responsePort := s.responsePort ++ [responseWord (encode i) .faultTaken 0x11] }) ∧
  ∀ (idx : Index) (data : Word32), (Instr.wrcfg idx data).wellFormed = true

/-- R194: whatever word takes the engine into FAULT, the fault is precise: the cause and the command word are saved, the
mode is FAULT, FAULT_TAKEN is answered, and nothing else is touched. -/
def Obligations.FaultEntryIsPrecise : Prop :=
  ∀ s t : State, s.mode ≠ .fault → step s = .next t → t.mode = .fault →
    ∃ (cw : Word64) (rest : List PortEvent) (c : Word32),
      s.commandPort = .command cw :: rest ∧ (c = 0x10 ∨ c = 0x11 ∨ c = 0x12 ∨ c = 0x13) ∧
      t = { s with
            commandPort := rest
            errCode := c
            errCmdHi := cw.extractLsb' 32 32
            errCmdLo := cw.extractLsb' 0 32
            mode := .fault
            responsePort := s.responsePort ++ [responseWord cw .faultTaken c] }

/-- R195: in FAULT only RESET and RDREG run; every other command word is answered FAULTED and changes nothing. -/
def Obligations.FaultModeLetsOnlyResetAndRdreg : Prop :=
  ∀ (s : State) (cw : Word64) (rest : List PortEvent), s.mode = .fault → s.commandPort = .command cw :: rest →
    let s' := { s with commandPort := rest }
    (decode cw = .ok (.reset 0 0) → ∃ t, step s = .next t ∧ t.mode = .idle ∧ t.errCode = 0) ∧
    (∀ idx r, decode cw = .ok (.rdreg idx 0) → regOfNumber? idx = some r →
      step s = .next { s' with responsePort := s.responsePort ++ [responseWord cw .ok (s'.readReg r)] }) ∧
    (∀ idx, decode cw = .ok (.rdreg idx 0) → regOfNumber? idx = none →
      step s = .next { s' with responsePort := s.responsePort ++ [responseWord cw .badIndex 0] }) ∧
    (decode cw ≠ .ok (.reset 0 0) → (∀ idx, decode cw ≠ .ok (.rdreg idx 0)) →
      step s = .next { s' with responsePort := s.responsePort ++ [responseWord cw .faulted s.errCode] })

/-- R195, R196: no sequence of commands without a reset leaves FAULT or changes anything in it. -/
def Obligations.FaultLastsUntilReset : Prop :=
  ∀ (s : State) (cws : List Word64), s.mode = .fault → s.commandPort = cws.map .command →
    (∀ cw ∈ cws, cw ≠ resetWord) →
    ∃ rws, Host.Core.run core cws.length s =
      .next { s with commandPort := [], responsePort := s.responsePort ++ rws }

/-! ## Modes -/

/-- R148: the answer of every command in every mode that does not run it, that the modes that run it give none of
those answers, and that a reserved opcode or an unused field that is not zero faults in every mode but FAULT before
the table is consulted. -/
def Obligations.LegalityTable : Prop :=
  (∀ (i : Instr) (s : State) (st : Status), i.wellFormed = true → refusedIn i s.mode = some st →
    exec i s = .next
      { s with responsePort := s.responsePort ++ [responseWord (encode i) st (refusalData s st)] }) ∧
  (∀ (i : Instr) (s t : State), i.wellFormed = true → refusedIn i s.mode = none → exec i s = .next t →
    ∃ st d, t.responsePort = s.responsePort ++ [responseWord (encode i) st d] ∧
      st ≠ .badMode ∧ st ≠ .notAccepted ∧ st ≠ .faulted) ∧
  (∀ (s : State) (cw : Word64) (rest : List PortEvent), s.mode ≠ .fault → s.commandPort = .command cw :: rest →
    isReservedOpcode (opField cw) = true ∨ (∃ i, decode cw = .ok i ∧ i.wellFormed = false) →
    ∃ t c, step s = .next t ∧ t.mode = .fault ∧ t.responsePort = s.responsePort ++ [responseWord cw .faultTaken c])

/-- R149: every change of MODE there is and what brings it about, and that each event of the table does bring it about. -/
def Obligations.ModeTransitionsComplete : Prop :=
  (∀ s t : State, step s = .next t →
    t.mode = s.mode ∨
    (resetComes s ∧ t.mode = .idle) ∨
    (s.mode = .idle ∧ commandComes s (.start 0 0) ∧ validate s.params s.cfg = 0 ∧ t.mode = .running) ∨
    (s.mode = .running ∧ commandComes s (.pause 0 0) ∧ t.mode = .paused) ∨
    (s.mode = .paused ∧ commandComes s (.resume 0 0) ∧ t.mode = .running) ∨
    ((s.mode = .running ∨ s.mode = .paused) ∧ commandComes s (.quit 0 0) ∧ t.mode = .stopped) ∨
    (s.mode ≠ .fault ∧ t.mode = .fault ∧ isFaultCode t.errCode = true)) ∧
  (∀ s : State, resetComes s → ∃ t, step s = .next t ∧ t.mode = .idle) ∧
  (∀ s : State, s.mode = .idle → commandComes s (.start 0 0) →
    ∃ t, step s = .next t ∧ t.mode = if validate s.params s.cfg = 0 then .running else .idle) ∧
  (∀ s : State, s.mode = .running → commandComes s (.pause 0 0) → ∃ t, step s = .next t ∧ t.mode = .paused) ∧
  (∀ s : State, s.mode = .paused → commandComes s (.resume 0 0) → ∃ t, step s = .next t ∧ t.mode = .running) ∧
  (∀ s : State, s.mode = .running ∨ s.mode = .paused → commandComes s (.quit 0 0) →
    ∃ t, step s = .next t ∧ t.mode = .stopped) ∧
  (∀ (s t : State) (cw : Word64) (c : Word32), step s = .next t →
    t.responsePort = s.responsePort ++ [responseWord cw .faultTaken c] → t.mode = .fault)

/-- R145, R146, R147: the three control signals where they are legal: MODE changes, the new mode is answered, and
nothing else changes. -/
def Obligations.ControlSignalsMoveTheMode : Prop :=
  (∀ s : State, s.mode = .running → exec (.pause 0 0) s = .next
    { s with mode := .paused, responsePort := s.responsePort ++ [0x0000000500000002#64] }) ∧
  (∀ s : State, s.mode = .paused → exec (.resume 0 0) s = .next
    { s with mode := .running, responsePort := s.responsePort ++ [0x0000000600000001#64] }) ∧
  (∀ s : State, s.mode = .running ∨ s.mode = .paused → exec (.quit 0 0) s = .next
    { s with mode := .stopped, responsePort := s.responsePort ++ [0x0000000700000003#64] })

/-- R140: NOP answers OK and changes nothing, in every mode but FAULT. -/
def Obligations.NopDoesNothing : Prop :=
  ∀ s : State, s.mode ≠ .fault →
    exec (.nop 0 0) s = .next { s with responsePort := s.responsePort ++ [0x0000000000000000#64] }

/-- R145, R229: whatever PUSH and FRAME commands reach a paused engine, they are answered NOT_ACCEPTED, and after RESUME
the engine is as it was before them, running. -/
def Obligations.PauseThenResumeContinues : Prop :=
  ∀ (s : State) (cs : List Instr), s.mode = .paused → (∀ i ∈ cs, i = .frame 0 0 ∨ ∃ d, i = .push 0 d) →
    s.commandPort = cs.map (fun i => .command (encode i)) ++ [.command (encode (.resume 0 0))] →
    Host.Core.run core (cs.length + 1) s = .next
      { s with
        commandPort := []
        mode := .running
        responsePort := s.responsePort ++ cs.map (fun i => responseWord (encode i) .notAccepted 2)
          ++ [0x0000000600000001#64] }

/-! ## START -/

/-- R142, R144: START with a legal configuration builds the pipeline: the window is empty, the band table is computed,
every SM is MIN_DB, nothing else has a value, and MODE is RUNNING. -/
def Obligations.StartConstructsPipeline : Prop :=
  ∀ s : State, s.mode = .idle → validate s.params s.cfg = 0 →
    let n := s.cfg.numBands.toNat
    let m := s.cfg.fftSize.toNat
    let rate := s.cfg.sampleRate.toNat
    let fHi := s.cfg.highBound s.num
    exec (.start 0 0) s = .next
      { s with
        win := []
        bfLo := (List.range n).map (bandBoundary s.num s.cfg.fLo fHi n)
        bfHi := (List.range n).map (fun b => bandBoundary s.num s.cfg.fLo fHi n (b + 1))
        lowBin := (List.range n).map (fun b => lowBinOf s.num rate m (bandBoundary s.num s.cfg.fLo fHi n b))
        highBin := (List.range n).map (fun b => highBinOf s.num rate m (bandBoundary s.num s.cfg.fLo fHi n (b + 1)))
        sm := List.replicate n s.cfg.minDb
        rawDb := []
        mag := []
        resValid := false
        pushCnt := 0
        frameCnt := 0
        errCode := 0
        mode := .running
        responsePort := s.responsePort ++ [0x0000000400000000#64] }

/-- R142: a refused START writes ERRCODE and nothing else, and the engine stays in IDLE. -/
def Obligations.StartRefusedWritesOnlyErrcode : Prop :=
  ∀ s : State, s.mode = .idle → validate s.params s.cfg ≠ 0 →
    exec (.start 0 0) s = .next
      { s with
        errCode := validate s.params s.cfg
        responsePort := s.responsePort ++
          [responseWord 0x0400000000000000#64 .cfgInvalid (validate s.params s.cfg)] }

/-- R143: `validate` gives the code of the first check that fails, in the order of the table. -/
def Obligations.ValidationReportsFirstFailure : Prop :=
  ∀ (p : Params) (c : Cfg),
    let num := numericsOf p.numerics
    let fHi := c.highBound num
    let e1 := ¬ ((∃ k, c.fftSize.toNat = 2 ^ k) ∧ 2 ≤ c.fftSize.toNat ∧ c.fftSize.toNat ≤ p.maxFft)
    let e2 := c.numBands.toNat = 0 ∨ p.maxBands < c.numBands.toNat
    let e3 := c.sampleRate.toNat = 0
    let e4 := c.channels.toNat = 0 ∨ p.maxCh < c.channels.toNat
    let e5 := ¬ (num.le (num.lit 0) c.alpha = true ∧ num.lt c.alpha (num.lit 1) = true)
    let e6 := ¬ (num.lt (num.lit 0) c.fLo = true ∧ num.lt c.fLo fHi = true ∧
        num.le fHi (num.div (num.ofNat c.sampleRate.toNat) (num.lit 2)) = true) ∨
      ∃ k, k ≤ c.numBands.toNat ∧
        num.isFinite (bandBoundary num c.fLo fHi c.numBands.toNat k) = false
    (e1 → validate p c = 1) ∧
    (¬ e1 → e2 → validate p c = 2) ∧
    (¬ e1 → ¬ e2 → e3 → validate p c = 3) ∧
    (¬ e1 → ¬ e2 → ¬ e3 → e4 → validate p c = 4) ∧
    (¬ e1 → ¬ e2 → ¬ e3 → ¬ e4 → e5 → validate p c = 5) ∧
    (¬ e1 → ¬ e2 → ¬ e3 → ¬ e4 → ¬ e5 → e6 → validate p c = 6) ∧
    (¬ e1 → ¬ e2 → ¬ e3 → ¬ e4 → ¬ e5 → ¬ e6 → validate p c = 0)

/-! ## PUSH and FRAME -/

/-- R100: an accepted sample is appended; a push that exceeds the capacity removes the oldest sample group. -/
def Obligations.PushAppendsAndEvicts : Prop :=
  ∀ (s : State) (d : Word32), s.mode = .running → isNonFiniteWord d = false →
    (s.win.length < s.cfg.cap → exec (.push 0 d) s = .next
      { s with
        win := s.win ++ [finiteValue s d]
        pushCnt := s.pushCnt + 1
        responsePort := s.responsePort ++
          [responseWord (encode (.push 0 d)) .ok (BitVec.ofNat 32 (s.win.length + 1))] }) ∧
    (s.cfg.cap ≤ s.win.length → exec (.push 0 d) s = .next
      { s with
        win := (s.win ++ [finiteValue s d]).drop s.cfg.channels.toNat
        pushCnt := s.pushCnt + 1
        responsePort := s.responsePort ++
          [responseWord (encode (.push 0 d)) .ok
            (BitVec.ofNat 32 (s.win.length + 1 - s.cfg.channels.toNat))] })

/-- R100, R191: a sample that is a NaN or an infinity faults and the window is unchanged. -/
def Obligations.PushOfNonFiniteWordFaults : Prop :=
  ∀ (s : State) (d : Word32), s.mode = .running → isNonFiniteWord d = true → exec (.push 0 d) s = .next
    { s with
      errCode := 0x12
      errCmdHi := 0x10000000
      errCmdLo := d
      mode := .fault
      responsePort := s.responsePort ++ [responseWord (encode (.push 0 d)) .faultTaken 0x12] }

/-- R103 (b) (marked derived by the spec): after whole groups have been pushed into an empty window it holds the most
recent of them, as many as it has room for, and nothing but WIN and PUSHCNT has changed. -/
def Obligations.WindowHoldsLatestGroups : Prop :=
  ∀ (s : State) (ds : List Word32) (g : Nat),
    s.mode = .running → s.win = [] → 0 < s.cfg.channels.toNat → ds.length = g * s.cfg.channels.toNat →
    (∀ d ∈ ds, isNonFiniteWord d = false) → s.commandPort = ds.map (fun d => .command (encode (.push 0 d))) →
    ∃ rws, Host.Core.run core ds.length s = .next
      { s with
        commandPort := []
        responsePort := s.responsePort ++ rws
        win := (ds.map (finiteValue s)).drop (ds.length - s.cfg.cap)
        pushCnt := s.pushCnt + BitVec.ofNat 32 ds.length }

/-- R101, with R102, R110 to R112, R123, R124 and R130: a produced frame is the stages in their order, each band smoothed
from the value it held; the window is not consumed. -/
def Obligations.FrameRunsThePipeline : Prop :=
  ∀ s : State, s.mode = .running → s.win.length = s.cfg.cap →
    let num := s.num
    let m := s.cfg.fftSize.toNat
    let c := s.cfg.channels.toNat
    let frame := (List.range m).map fun i => num.div (sum num ((s.win.drop (i * c)).take c)) (num.ofNat c)
    let windowed := List.zipWith (hannValue num m) (List.range m) frame
    let mag := (List.range m).map fun k =>
      num.div (num.cabs (num.dft m windowed k).1 (num.dft m windowed k).2) (num.ofNat m)
    let db := List.zipWith (fun lo hi => decibels num (bandAverage num mag lo hi)) s.lowBin s.highBin
    let sm := List.zipWith (smooth num s.cfg.alpha) s.sm db
    ((∀ x ∈ mag, num.isFinite x = true) ∧ (∀ x ∈ db, num.isFinite x = true) ∧ (∀ x ∈ sm, num.isFinite x = true)) →
    exec (.frame 0 0) s = .next
      { s with
        mag := mag
        rawDb := db
        sm := sm
        resValid := true
        frameCnt := s.frameCnt + 1
        responsePort := s.responsePort ++ [responseWord 0x1100000000000000#64 .ok (s.frameCnt + 1)] }

/-- R101: FRAME on a window that is not full answers NOT_READY with WINLEN and changes nothing. -/
def Obligations.FrameNotReady : Prop :=
  ∀ s : State, s.mode = .running → s.win.length ≠ s.cfg.cap → exec (.frame 0 0) s = .next
    { s with responsePort := s.responsePort ++ [responseWord 0x1100000000000000#64 .notReady s.winLen] }

/-- R101, R194: a FRAME with a computed value that is not finite faults, and no array is written. -/
def Obligations.FrameNumericFault : Prop :=
  ∀ s : State, s.mode = .running → s.win.length = s.cfg.cap →
    (∃ x, (x ∈ (analyse s).mag ∨ x ∈ (analyse s).db ∨ x ∈ (analyse s).sm) ∧ s.num.isFinite x = false) →
    exec (.frame 0 0) s = .next
      { s with
        errCode := 0x13
        errCmdHi := 0x11000000
        errCmdLo := 0
        mode := .fault
        responsePort := s.responsePort ++ [responseWord 0x1100000000000000#64 .faultTaken 0x13] }

/-- R224: a second FRAME with no PUSH between has the same spectrum and decibels, and smooths once more. -/
def Obligations.FrameRepeatedSmoothsAgain : Prop :=
  ∀ s t u : State, s.mode = .running → s.win.length = s.cfg.cap → allFinite s.num (analyse s) = true →
    exec (.frame 0 0) s = .next t → exec (.frame 0 0) t = .next u → u.mode = .running →
    u.mag = t.mag ∧ u.rawDb = t.rawDb ∧ u.win = s.win ∧ u.frameCnt = s.frameCnt + 2 ∧
      u.sm = List.zipWith (smooth s.num s.cfg.alpha) t.sm t.rawDb

/-! ## Registers -/

/-- R150: in IDLE a write of a configuration register stores the word (the integer registers), its number (the F
registers, for a finite word) or the flag word (with its reserved bits zero), and answers OK with the data. -/
def Obligations.WrcfgStoresTheValue : Prop :=
  ∀ (s : State) (d : Word32), s.mode = .idle →
    let done (idx : Index) (c : Cfg) : Host.Outcome State Fault Refusal :=
      .next { s with
        cfg := c
        responsePort := s.responsePort ++ [responseWord (encode (.wrcfg idx d)) .ok d] }
    exec (.wrcfg 0x00 d) s = done 0x00 { s.cfg with fftSize := d } ∧
    exec (.wrcfg 0x01 d) s = done 0x01 { s.cfg with numBands := d } ∧
    exec (.wrcfg 0x02 d) s = done 0x02 { s.cfg with sampleRate := d } ∧
    exec (.wrcfg 0x03 d) s = done 0x03 { s.cfg with channels := d } ∧
    (isNonFiniteWord d = false →
      exec (.wrcfg 0x04 d) s = done 0x04 { s.cfg with minDb := finiteValue s d } ∧
      exec (.wrcfg 0x05 d) s = done 0x05 { s.cfg with alpha := finiteValue s d } ∧
      exec (.wrcfg 0x06 d) s = done 0x06 { s.cfg with fLo := finiteValue s d } ∧
      exec (.wrcfg 0x07 d) s = done 0x07 { s.cfg with fHi := finiteValue s d }) ∧
    (d = 0 ∨ d = 1 → exec (.wrcfg 0x08 d) s = done 0x08 { s.cfg with cfgFlags := d })

/-- R150, R51, R32: in IDLE a write of a number that is no configuration register answers BAD_INDEX; a non-finite word
for an F register, or a flag word with a reserved bit set, answers BAD_VALUE; nothing is written. -/
def Obligations.WrcfgRefusals : Prop :=
  ∀ (s : State) (idx : Index) (d : Word32), s.mode = .idle →
    (8 < idx.toNat → exec (.wrcfg idx d) s = .next
      { s with responsePort := s.responsePort ++ [responseWord (encode (.wrcfg idx d)) .badIndex 0] }) ∧
    (4 ≤ idx.toNat → idx.toNat ≤ 7 → isNonFiniteWord d = true → exec (.wrcfg idx d) s = .next
      { s with responsePort := s.responsePort ++ [responseWord (encode (.wrcfg idx d)) .badValue 0] }) ∧
    (idx = 8 → d ≠ 0 → d ≠ 1 → exec (.wrcfg idx d) s = .next
      { s with responsePort := s.responsePort ++ [responseWord (encode (.wrcfg idx d)) .badValue 0] })

/-- R151: what RDREG answers for each of the seventeen registers, in every mode, FAULT included; the state is
otherwise unchanged. -/
def Obligations.RdregAnswersTheRegister : Prop :=
  ∀ s : State,
    ∀ p ∈ ([(0x00, s.cfg.fftSize), (0x01, s.cfg.numBands), (0x02, s.cfg.sampleRate), (0x03, s.cfg.channels),
      (0x04, s.num.toBits s.cfg.minDb), (0x05, s.num.toBits s.cfg.alpha), (0x06, s.num.toBits s.cfg.fLo),
      (0x07, s.num.toBits s.cfg.fHi), (0x08, s.cfg.cfgFlags), (0x10, s.mode.code), (0x11, s.status),
      (0x12, s.errCode), (0x13, s.errCmdHi), (0x14, s.errCmdLo), (0x15, BitVec.ofNat 32 s.win.length),
      (0x16, s.pushCnt), (0x17, s.frameCnt)] : List (Index × Word32)),
    exec (.rdreg p.1 0) s = .next
      { s with responsePort := s.responsePort ++ [responseWord (encode (.rdreg p.1 0)) .ok p.2] }

/-- R51, R151: RDREG of a reserved number answers BAD_INDEX and reads nothing. -/
def Obligations.RdregReservedNumber : Prop :=
  ∀ (s : State) (idx : Index), (0x09 ≤ idx.toNat ∧ idx.toNat ≤ 0x0F) ∨ 0x18 ≤ idx.toNat →
    exec (.rdreg idx 0) s = .next
      { s with responsePort := s.responsePort ++ [responseWord (encode (.rdreg idx 0)) .badIndex 0] }

/-- R34: bit 0 of STATUS is WIN_FULL, bit 1 is RES_VALID, and bits 31:2 read as zero. -/
def Obligations.StatusBits : Prop :=
  ∀ s : State,
    (s.status.getLsbD 0 = true ↔ s.mode ≠ .idle ∧ s.win.length = s.cfg.fftSize.toNat * s.cfg.channels.toNat) ∧
    (s.status.getLsbD 1 = true ↔ s.resValid = true) ∧
    ∀ k, 2 ≤ k → s.status.getLsbD k = false

/-- R23: a read of a configuration register returns the value last written: an accepted WRCFG followed by RDREG of the
same number answers the word written. For an F register NUM's `toBits` is asked to give this word back from its number
(R7), and negative zero comes back as zero. -/
def Obligations.ConfigurationReadsBack : Prop :=
  ∀ (s t : State) (idx : Index) (d : Word32), s.mode = .idle →
    (4 ≤ idx.toNat → idx.toNat ≤ 7 → s.num.toBits (finiteValue s d) = if d = negativeZero then 0 else d) →
    exec (.wrcfg idx d) s = .next t →
    t.responsePort = s.responsePort ++ [responseWord (encode (.wrcfg idx d)) .ok d] →
    exec (.rdreg idx 0) t = .next
      { t with
        responsePort := t.responsePort ++ [responseWord (encode (.rdreg idx 0)) .ok
          (if 4 ≤ idx.toNat ∧ idx.toNat ≤ 7 ∧ d = negativeZero then 0 else d)] }

/-! ## Array reads -/

/-- R152 to R158: in a state of the engine's invariant, a read in RUNNING, PAUSED or STOPPED with an index in range
answers the element, and changes nothing else; RDDB and RDMAG once a frame was produced. -/
def Obligations.ArrayReadsAnswerTheElement : Prop :=
  ∀ (s : State) (idx : Index), EngineInv s → s.mode = .running ∨ s.mode = .paused ∨ s.mode = .stopped →
    let answers (i : Instr) (w : Word32) : Prop := exec i s = .next
      { s with responsePort := s.responsePort ++ [responseWord (encode i) .ok w] }
    (idx.toNat < s.cfg.numBands.toNat →
      (∃ v, s.sm[idx.toNat]? = some v ∧ answers (.rdsm idx 0) (s.num.toBits v)) ∧
      (∃ v, s.lowBin[idx.toNat]? = some v ∧ answers (.rdblo idx 0) (BitVec.ofNat 32 v)) ∧
      (∃ v, s.highBin[idx.toNat]? = some v ∧ answers (.rdbhi idx 0) (BitVec.ofNat 32 v)) ∧
      (∃ v, s.bfLo[idx.toNat]? = some v ∧ answers (.rdflo idx 0) (s.num.toBits v)) ∧
      (∃ v, s.bfHi[idx.toNat]? = some v ∧ answers (.rdfhi idx 0) (s.num.toBits v)) ∧
      (s.resValid = true → ∃ v, s.rawDb[idx.toNat]? = some v ∧ answers (.rddb idx 0) (s.num.toBits v))) ∧
    (idx.toNat < s.cfg.fftSize.toNat → s.resValid = true →
      ∃ v, s.mag[idx.toNat]? = some v ∧ answers (.rdmag idx 0) (s.num.toBits v))

/-- R193 checks 5 and 6: in RUNNING, PAUSED and STOPPED an index out of range answers BAD_INDEX, and an index in range
of an array no frame has filled answers NOT_VALID. -/
def Obligations.ArrayReadRefusals : Prop :=
  ∀ (s : State) (idx : Index), s.mode = .running ∨ s.mode = .paused ∨ s.mode = .stopped →
    let answers (i : Instr) (st : Status) : Prop := exec i s = .next
      { s with responsePort := s.responsePort ++ [responseWord (encode i) st 0] }
    (s.cfg.numBands.toNat ≤ idx.toNat →
      answers (.rdsm idx 0) .badIndex ∧ answers (.rddb idx 0) .badIndex ∧ answers (.rdblo idx 0) .badIndex ∧
      answers (.rdbhi idx 0) .badIndex ∧ answers (.rdflo idx 0) .badIndex ∧ answers (.rdfhi idx 0) .badIndex) ∧
    (s.cfg.fftSize.toNat ≤ idx.toNat → answers (.rdmag idx 0) .badIndex) ∧
    (idx.toNat < s.cfg.numBands.toNat → s.resValid = false → answers (.rddb idx 0) .notValid) ∧
    (idx.toNat < s.cfg.fftSize.toNat → s.resValid = false → answers (.rdmag idx 0) .notValid)

/-- R54: a read changes no state and, repeated, gives the same answer. -/
def Obligations.ReadsHaveNoSideEffect : Prop :=
  ∀ (s : State) (idx : Index) (i : Instr),
    i ∈ [.rdreg idx 0, .rdsm idx 0, .rddb idx 0, .rdmag idx 0, .rdblo idx 0, .rdbhi idx 0, .rdflo idx 0,
      .rdfhi idx 0] →
    ∃ rw, exec i s = .next { s with responsePort := s.responsePort ++ [rw] } ∧
      exec i { s with responsePort := s.responsePort ++ [rw] } =
        .next { s with responsePort := s.responsePort ++ [rw, rw] }

/-! ## Whole-machine rules -/

/-- R23, R222: the configuration changes only by WRCFG in IDLE and by reset. -/
def Obligations.ConfigurationLockedOutsideIdle : Prop :=
  ∀ s t : State, step s = .next t → t.cfg ≠ s.cfg →
    (s.mode = .idle ∧ ∃ idx d, commandComes s (.wrcfg idx d)) ∨ resetComes s

/-- R40, R41, R42, R43, R44, R45: which commands write the arrays, apart from reset: the window by PUSH and START, SM,
RAWDB and MAG by FRAME and START, the band table by START alone. -/
def Obligations.ArraysHaveTheirWriters : Prop :=
  ∀ s t : State, step s = .next t → ¬ resetComes s →
    (t.win ≠ s.win →
      (s.mode = .running ∧ ∃ d, commandComes s (.push 0 d)) ∨ (s.mode = .idle ∧ commandComes s (.start 0 0))) ∧
    (t.sm ≠ s.sm ∨ t.rawDb ≠ s.rawDb ∨ t.mag ≠ s.mag →
      (s.mode = .running ∧ commandComes s (.frame 0 0)) ∨ (s.mode = .idle ∧ commandComes s (.start 0 0))) ∧
    (t.lowBin ≠ s.lowBin ∨ t.highBin ≠ s.highBin ∨ t.bfLo ≠ s.bfLo ∨ t.bfHi ≠ s.bfHi →
      s.mode = .idle ∧ commandComes s (.start 0 0))

/-- R48 with R6, R32, R35, R36, R191 (log entry 8): every step keeps the invariant of the engine. -/
def Obligations.StepKeepsInvariant : Prop := ∀ s t : State, EngineInv s → step s = .next t → EngineInv t

/-- The machine right after reset meets the invariant. -/
def Obligations.ResetMeetsInvariant : Prop := EngineInv State.reset

/-- R48: whatever reaches the engine from its reset on, with whatever legal limits and whatever NUM, the invariant holds. -/
def Obligations.InvariantHoldsOnEveryRun : Prop :=
  ∀ (p : Params) (es : List PortEvent) (n : Nat) (t : State), p.Legal →
    Host.Core.run core n { State.resetOf p with commandPort := es } = .next t → EngineInv t

/-! ## The stages, at NUM_real and at every NUM -/

/-- R7, R10 (log entry 2: the computed numerics are the model's): the computed numerics give back every finite word. -/
def Obligations.ComputedNumericsRoundTrip : Prop := ∀ b : Option Nat, ToBitsRoundTrips (computedNumerics b)

/-- R110's corner cases (marked derived by the spec), under NUM_real: the window is symmetric, its ends are zero, and
its weights lie between 0 and 1. -/
def Obligations.HannWeightsSymmetric : Prop :=
  ∀ m i : Nat, 2 ≤ m → i < m →
    hannWeight realNumerics m i = hannWeight realNumerics m (m - 1 - i) ∧
    hannWeight realNumerics m 0 = 0 ∧ hannWeight realNumerics m (m - 1) = 0 ∧
    0 ≤ hannWeight realNumerics m i ∧ hannWeight realNumerics m i ≤ 1

/-- R113 (b) (marked derived by the spec), under NUM_real: the spectrum of a real frame is mirrored. -/
def Obligations.SpectrumMirrored : Prop :=
  ∀ (m k : Nat) (frame : List ℝ), frame.length = m → 1 ≤ k → k < m →
    (magnitudeSpectrum realNumerics m frame)[k]? = (magnitudeSpectrum realNumerics m frame)[m - k]?

/-- R113 (c) (marked derived by the spec), under NUM_real: scaling the frame scales the magnitudes. -/
def Obligations.SpectrumScalesWithAmplitude : Prop :=
  ∀ (m : Nat) (g : ℝ) (frame : List ℝ), frame.length = m →
    magnitudeSpectrum realNumerics m (frame.map (g * ·)) = (magnitudeSpectrum realNumerics m frame).map (|g| * ·)

/-- R113 (d) (marked derived by the spec), under NUM_real: a constant frame has its largest magnitude at bin 0, of the
stated value, and none at the Nyquist bin. -/
def Obligations.ConstantFrameConcentratesAtDc : Prop :=
  ∀ (m : Nat) (c : ℝ), 4 ≤ m →
    (magnitudeSpectrum realNumerics m (List.replicate m c))[0]? = some (|c| * ((m : ℝ) - 1) / (2 * m)) ∧
    (∀ x ∈ magnitudeSpectrum realNumerics m (List.replicate m c), x ≤ |c| * ((m : ℝ) - 1) / (2 * m)) ∧
    (m % 2 = 0 → (magnitudeSpectrum realNumerics m (List.replicate m c))[m / 2]? = some 0)

/-- R113 (e), R123, R124 (the first marked derived by the spec), under NUM_real: silence has no magnitude, and every
band of it is −200 dB, whatever its bins. -/
def Obligations.SilenceIsMinusTwoHundred : Prop :=
  ∀ (m : Nat) (lo hi : List Nat), lo.length = hi.length →
    magnitudeSpectrum realNumerics m (List.replicate m 0) = List.replicate m 0 ∧
    bandMap realNumerics lo hi (List.replicate m 0) = List.replicate lo.length (-200)

/-- R124, under NUM_real: no average of magnitudes has fewer than −200 dB, and a larger average has more. -/
def Obligations.DecibelsBoundedBelow : Prop :=
  decibels realNumerics 0 = -200 ∧
  ∀ a b : ℝ, 0 ≤ a → a < b → -200 ≤ decibels realNumerics a ∧ decibels realNumerics a < decibels realNumerics b

/-- R125 (marked derived by the spec): under every NUM the upper boundary of a band is the lower boundary of the next;
under NUM_real the boundaries run from f_lo to f_hi, strictly rising, with one ratio between neighbours. -/
def Obligations.BoundariesPartitionTheRange : Prop :=
  (∀ (num : Numerics F) (fLo fHi : F) (n b : Nat), b + 1 < n →
    (bandHighs num fLo fHi n)[b]? = (bandLows num fLo fHi n)[b + 1]?) ∧
  ∀ (fLo fHi : ℝ) (rate n : Nat), RealBounds fLo fHi rate → 0 < n →
    bandBoundary realNumerics fLo fHi n 0 = fLo ∧ bandBoundary realNumerics fLo fHi n n = fHi ∧
    ∀ k, bandBoundary realNumerics fLo fHi n k < bandBoundary realNumerics fLo fHi n (k + 1) ∧
      bandBoundary realNumerics fLo fHi n (k + 1) / bandBoundary realNumerics fLo fHi n k =
        (fHi / fLo) ^ ((1 : ℝ) / n)

/-- R127 (marked derived by the spec), under NUM_real: in a legal configuration the clamp changes nothing, every band
has at least one bin, and no band reads the Nyquist bin or a mirrored one. -/
def Obligations.EveryBandHasItsBins : Prop :=
  ∀ (fLo fHi : ℝ) (rate m n b : Nat), RealBounds fLo fHi rate → 2 ≤ m → m % 2 = 0 → b < n →
    let lo := bandBoundary realNumerics fLo fHi n b
    let hi := bandBoundary realNumerics fLo fHi n (b + 1)
    (lowBinOf realNumerics rate m lo : Int) = ⌊lo / rate * m⌋ ∧
    (highBinOf realNumerics rate m hi : Int) = ⌈hi / rate * m⌉ ∧
    lowBinOf realNumerics rate m lo < highBinOf realNumerics rate m hi ∧
    highBinOf realNumerics rate m hi ≤ m / 2

/-- R132 (a) (marked derived by the spec), under NUM_real: the closed form of smoothing toward a constant. -/
def Obligations.SmoothingClosedForm : Prop :=
  ∀ (alpha s x : ℝ) (n : Nat), (fun y => smooth realNumerics alpha y x)^[n] s = x + (s - x) * alpha ^ n

/-- R132 (c) (marked derived by the spec), under NUM_real: a smoothed value lies between the old and the new. -/
def Obligations.SmoothingStaysBetween : Prop :=
  ∀ alpha old new : ℝ, 0 ≤ alpha → alpha < 1 →
    min old new ≤ smooth realNumerics alpha old new ∧ smooth realNumerics alpha old new ≤ max old new

/-- R79: the expansions of the pseudo-instructions. -/
def Obligations.PseudoInstructionExpansions : Prop :=
  (∀ vs : List Word32, (Pseudo.pushblk vs).expand = vs.map fun v => Instr.push 0 v) ∧
  (∀ (v : Word32) (n : Nat), (Pseudo.pushrep v n).expand = List.replicate n (Instr.push 0 v)) ∧
  (∀ b : Index, (Pseudo.rdband b).expand = [Instr.rdflo b 0, Instr.rdfhi b 0, Instr.rdsm b 0])
end

