-- ==== Sys2Proof/Laws/HostProtocol.lean ====
section
/-! SUPPORT. What the definitions of the reference host can do, said once. -/

namespace Sys2Proof.Machine

/-- SAMPLE_RATE and CHANNELS are written whatever their values (R171). -/
theorem configWrites_always (num : Numerics F) (c : Cfg) :
    (Reg.sampleRate, c.sampleRate) ∈ configWrites num c ∧ (Reg.channels, c.channels) ∈ configWrites num c := by
  simp [configWrites, List.mem_filterMap]

/-- Of the reset configuration nothing is written but SAMPLE_RATE and CHANNELS (R171). -/
theorem configWrites_reset (num : Numerics F) :
    configWrites num (Cfg.reset num) = [(Reg.sampleRate, 0), (Reg.channels, 0)] := by
  simp [configWrites, Cfg.reset]

@[simp] theorem converse_nil (s : State) : converse [] s = (s, []) := rfl

/-- The first command of a list is the next thing the engine takes; a fault ends the list. -/
theorem converse_cons (i : Instr) (is : List Instr) (s t : State)
    (h : step (sendFirst (.command (encode i)) s) = .next t) :
    converse (i :: is) s =
      if (t.responsePort.drop s.responsePort.length).any isFaultResponse then
        (t, t.responsePort.drop s.responsePort.length)
      else ((converse is t).1, t.responsePort.drop s.responsePort.length ++ (converse is t).2) := by
  rw [converse, h]

/-- The control commands of an iteration are PAUSE and RESUME. -/
theorem mem_controlCommands (h : HostState) (sig : Signals) (i : Instr) (hi : i ∈ controlCommands h sig) :
    i = .pause 0 0 ∨ i = .resume 0 0 := by
  unfold controlCommands at hi
  rcases List.mem_append.1 hi with hi | hi <;> split at hi <;> simp_all

/-- Everything one iteration can do (R171): quit, stay paused, find too few samples, or push a hop and send FRAME. -/
theorem hopIteration_cases (p : HostParams) (h : HostState) (sig : Signals) :
    (sig.quit = true ∧ hopIteration p h sig = { commands := [.quit 0 0], after := h, next := .quits }) ∨
    (sig.quit = false ∧ pausedAfter h sig = true ∧ hopIteration p h sig =
      { commands := controlCommands h sig, after := { h with paused := true }, next := .sleeps }) ∨
    (sig.quit = false ∧ pausedAfter h sig = false ∧ p.samples.length < h.cursor + p.samplesPerHop ∧
      hopIteration p h sig =
        { commands := controlCommands h sig, after := { h with paused := false }, next := .finishes }) ∨
    (sig.quit = false ∧ pausedAfter h sig = false ∧ h.cursor + p.samplesPerHop ≤ p.samples.length ∧
      hopIteration p h sig =
        { commands := controlCommands h sig
            ++ ((p.samples.drop h.cursor).take p.samplesPerHop).map (Instr.push 0) ++ [.frame 0 0]
          after := { cursor := h.cursor + p.samplesPerHop, paused := false }
          next := .frames }) := by
  unfold hopIteration
  split_ifs with hq hp hl
  · exact .inl ⟨hq, rfl⟩
  · exact .inr (.inl ⟨by simpa using hq, hp, rfl⟩)
  · exact .inr (.inr (.inl ⟨by simpa using hq, by simpa using hp, hl, rfl⟩))
  · exact .inr (.inr (.inr ⟨by simpa using hq, by simpa using hp, by omega, rfl⟩))

end Sys2Proof.Machine
end

