-- ==== Sys2Proof/Laws/State.lean ====
section
/-! SUPPORT. One lemma per field of State for each shared update of it, so that no later proof unfolds a record update. -/

namespace Sys2Proof.Machine

variable (s : State)

/-! ## respond -/

@[simp] theorem respond_params (cw : Word64) (st : Status) (d : Word32) : (respond cw st d s).params = s.params := rfl
@[simp] theorem respond_commandPort (cw : Word64) (st : Status) (d : Word32) : (respond cw st d s).commandPort = s.commandPort := rfl
@[simp] theorem respond_responsePort (cw : Word64) (st : Status) (d : Word32) : (respond cw st d s).responsePort = s.responsePort ++ [responseWord cw st d] := rfl
@[simp] theorem respond_cfg (cw : Word64) (st : Status) (d : Word32) : (respond cw st d s).cfg = s.cfg := rfl
@[simp] theorem respond_mode (cw : Word64) (st : Status) (d : Word32) : (respond cw st d s).mode = s.mode := rfl
@[simp] theorem respond_resValid (cw : Word64) (st : Status) (d : Word32) : (respond cw st d s).resValid = s.resValid := rfl
@[simp] theorem respond_errCode (cw : Word64) (st : Status) (d : Word32) : (respond cw st d s).errCode = s.errCode := rfl
@[simp] theorem respond_errCmdHi (cw : Word64) (st : Status) (d : Word32) : (respond cw st d s).errCmdHi = s.errCmdHi := rfl
@[simp] theorem respond_errCmdLo (cw : Word64) (st : Status) (d : Word32) : (respond cw st d s).errCmdLo = s.errCmdLo := rfl
@[simp] theorem respond_pushCnt (cw : Word64) (st : Status) (d : Word32) : (respond cw st d s).pushCnt = s.pushCnt := rfl
@[simp] theorem respond_frameCnt (cw : Word64) (st : Status) (d : Word32) : (respond cw st d s).frameCnt = s.frameCnt := rfl
@[simp] theorem respond_win (cw : Word64) (st : Status) (d : Word32) : (respond cw st d s).win = s.win := rfl
@[simp] theorem respond_sm (cw : Word64) (st : Status) (d : Word32) : (respond cw st d s).sm = s.sm := rfl
@[simp] theorem respond_rawDb (cw : Word64) (st : Status) (d : Word32) : (respond cw st d s).rawDb = s.rawDb := rfl
@[simp] theorem respond_mag (cw : Word64) (st : Status) (d : Word32) : (respond cw st d s).mag = s.mag := rfl
@[simp] theorem respond_lowBin (cw : Word64) (st : Status) (d : Word32) : (respond cw st d s).lowBin = s.lowBin := rfl
@[simp] theorem respond_highBin (cw : Word64) (st : Status) (d : Word32) : (respond cw st d s).highBin = s.highBin := rfl
@[simp] theorem respond_bfLo (cw : Word64) (st : Status) (d : Word32) : (respond cw st d s).bfLo = s.bfLo := rfl
@[simp] theorem respond_bfHi (cw : Word64) (st : Status) (d : Word32) : (respond cw st d s).bfHi = s.bfHi := rfl
@[simp] theorem respond_num (cw : Word64) (st : Status) (d : Word32) : (respond cw st d s).num = s.num := rfl

/-! ## setMode -/

@[simp] theorem setMode_params (m : Mode) : (setMode m s).params = s.params := rfl
@[simp] theorem setMode_commandPort (m : Mode) : (setMode m s).commandPort = s.commandPort := rfl
@[simp] theorem setMode_responsePort (m : Mode) : (setMode m s).responsePort = s.responsePort := rfl
@[simp] theorem setMode_cfg (m : Mode) : (setMode m s).cfg = s.cfg := rfl
@[simp] theorem setMode_mode (m : Mode) : (setMode m s).mode = m := rfl
@[simp] theorem setMode_resValid (m : Mode) : (setMode m s).resValid = s.resValid := rfl
@[simp] theorem setMode_errCode (m : Mode) : (setMode m s).errCode = s.errCode := rfl
@[simp] theorem setMode_errCmdHi (m : Mode) : (setMode m s).errCmdHi = s.errCmdHi := rfl
@[simp] theorem setMode_errCmdLo (m : Mode) : (setMode m s).errCmdLo = s.errCmdLo := rfl
@[simp] theorem setMode_pushCnt (m : Mode) : (setMode m s).pushCnt = s.pushCnt := rfl
@[simp] theorem setMode_frameCnt (m : Mode) : (setMode m s).frameCnt = s.frameCnt := rfl
@[simp] theorem setMode_win (m : Mode) : (setMode m s).win = s.win := rfl
@[simp] theorem setMode_sm (m : Mode) : (setMode m s).sm = s.sm := rfl
@[simp] theorem setMode_rawDb (m : Mode) : (setMode m s).rawDb = s.rawDb := rfl
@[simp] theorem setMode_mag (m : Mode) : (setMode m s).mag = s.mag := rfl
@[simp] theorem setMode_lowBin (m : Mode) : (setMode m s).lowBin = s.lowBin := rfl
@[simp] theorem setMode_highBin (m : Mode) : (setMode m s).highBin = s.highBin := rfl
@[simp] theorem setMode_bfLo (m : Mode) : (setMode m s).bfLo = s.bfLo := rfl
@[simp] theorem setMode_bfHi (m : Mode) : (setMode m s).bfHi = s.bfHi := rfl
@[simp] theorem setMode_num (m : Mode) : (setMode m s).num = s.num := rfl

/-! ## setErrCode -/

@[simp] theorem setErrCode_params (e : Word32) : (setErrCode e s).params = s.params := rfl
@[simp] theorem setErrCode_commandPort (e : Word32) : (setErrCode e s).commandPort = s.commandPort := rfl
@[simp] theorem setErrCode_responsePort (e : Word32) : (setErrCode e s).responsePort = s.responsePort := rfl
@[simp] theorem setErrCode_cfg (e : Word32) : (setErrCode e s).cfg = s.cfg := rfl
@[simp] theorem setErrCode_mode (e : Word32) : (setErrCode e s).mode = s.mode := rfl
@[simp] theorem setErrCode_resValid (e : Word32) : (setErrCode e s).resValid = s.resValid := rfl
@[simp] theorem setErrCode_errCode (e : Word32) : (setErrCode e s).errCode = e := rfl
@[simp] theorem setErrCode_errCmdHi (e : Word32) : (setErrCode e s).errCmdHi = s.errCmdHi := rfl
@[simp] theorem setErrCode_errCmdLo (e : Word32) : (setErrCode e s).errCmdLo = s.errCmdLo := rfl
@[simp] theorem setErrCode_pushCnt (e : Word32) : (setErrCode e s).pushCnt = s.pushCnt := rfl
@[simp] theorem setErrCode_frameCnt (e : Word32) : (setErrCode e s).frameCnt = s.frameCnt := rfl
@[simp] theorem setErrCode_win (e : Word32) : (setErrCode e s).win = s.win := rfl
@[simp] theorem setErrCode_sm (e : Word32) : (setErrCode e s).sm = s.sm := rfl
@[simp] theorem setErrCode_rawDb (e : Word32) : (setErrCode e s).rawDb = s.rawDb := rfl
@[simp] theorem setErrCode_mag (e : Word32) : (setErrCode e s).mag = s.mag := rfl
@[simp] theorem setErrCode_lowBin (e : Word32) : (setErrCode e s).lowBin = s.lowBin := rfl
@[simp] theorem setErrCode_highBin (e : Word32) : (setErrCode e s).highBin = s.highBin := rfl
@[simp] theorem setErrCode_bfLo (e : Word32) : (setErrCode e s).bfLo = s.bfLo := rfl
@[simp] theorem setErrCode_bfHi (e : Word32) : (setErrCode e s).bfHi = s.bfHi := rfl
@[simp] theorem setErrCode_num (e : Word32) : (setErrCode e s).num = s.num := rfl

/-! ## setCfg -/

@[simp] theorem setCfg_params (c : Cfg) : (setCfg c s).params = s.params := rfl
@[simp] theorem setCfg_commandPort (c : Cfg) : (setCfg c s).commandPort = s.commandPort := rfl
@[simp] theorem setCfg_responsePort (c : Cfg) : (setCfg c s).responsePort = s.responsePort := rfl
@[simp] theorem setCfg_cfg (c : Cfg) : (setCfg c s).cfg = c := rfl
@[simp] theorem setCfg_mode (c : Cfg) : (setCfg c s).mode = s.mode := rfl
@[simp] theorem setCfg_resValid (c : Cfg) : (setCfg c s).resValid = s.resValid := rfl
@[simp] theorem setCfg_errCode (c : Cfg) : (setCfg c s).errCode = s.errCode := rfl
@[simp] theorem setCfg_errCmdHi (c : Cfg) : (setCfg c s).errCmdHi = s.errCmdHi := rfl
@[simp] theorem setCfg_errCmdLo (c : Cfg) : (setCfg c s).errCmdLo = s.errCmdLo := rfl
@[simp] theorem setCfg_pushCnt (c : Cfg) : (setCfg c s).pushCnt = s.pushCnt := rfl
@[simp] theorem setCfg_frameCnt (c : Cfg) : (setCfg c s).frameCnt = s.frameCnt := rfl
@[simp] theorem setCfg_win (c : Cfg) : (setCfg c s).win = s.win := rfl
@[simp] theorem setCfg_sm (c : Cfg) : (setCfg c s).sm = s.sm := rfl
@[simp] theorem setCfg_rawDb (c : Cfg) : (setCfg c s).rawDb = s.rawDb := rfl
@[simp] theorem setCfg_mag (c : Cfg) : (setCfg c s).mag = s.mag := rfl
@[simp] theorem setCfg_lowBin (c : Cfg) : (setCfg c s).lowBin = s.lowBin := rfl
@[simp] theorem setCfg_highBin (c : Cfg) : (setCfg c s).highBin = s.highBin := rfl
@[simp] theorem setCfg_bfLo (c : Cfg) : (setCfg c s).bfLo = s.bfLo := rfl
@[simp] theorem setCfg_bfHi (c : Cfg) : (setCfg c s).bfHi = s.bfHi := rfl
@[simp] theorem setCfg_num (c : Cfg) : (setCfg c s).num = s.num := rfl

/-! ## sendFirst -/

@[simp] theorem sendFirst_params (e : PortEvent) : (sendFirst e s).params = s.params := rfl
@[simp] theorem sendFirst_commandPort (e : PortEvent) : (sendFirst e s).commandPort = e :: s.commandPort := rfl
@[simp] theorem sendFirst_responsePort (e : PortEvent) : (sendFirst e s).responsePort = s.responsePort := rfl
@[simp] theorem sendFirst_cfg (e : PortEvent) : (sendFirst e s).cfg = s.cfg := rfl
@[simp] theorem sendFirst_mode (e : PortEvent) : (sendFirst e s).mode = s.mode := rfl
@[simp] theorem sendFirst_resValid (e : PortEvent) : (sendFirst e s).resValid = s.resValid := rfl
@[simp] theorem sendFirst_errCode (e : PortEvent) : (sendFirst e s).errCode = s.errCode := rfl
@[simp] theorem sendFirst_errCmdHi (e : PortEvent) : (sendFirst e s).errCmdHi = s.errCmdHi := rfl
@[simp] theorem sendFirst_errCmdLo (e : PortEvent) : (sendFirst e s).errCmdLo = s.errCmdLo := rfl
@[simp] theorem sendFirst_pushCnt (e : PortEvent) : (sendFirst e s).pushCnt = s.pushCnt := rfl
@[simp] theorem sendFirst_frameCnt (e : PortEvent) : (sendFirst e s).frameCnt = s.frameCnt := rfl
@[simp] theorem sendFirst_win (e : PortEvent) : (sendFirst e s).win = s.win := rfl
@[simp] theorem sendFirst_sm (e : PortEvent) : (sendFirst e s).sm = s.sm := rfl
@[simp] theorem sendFirst_rawDb (e : PortEvent) : (sendFirst e s).rawDb = s.rawDb := rfl
@[simp] theorem sendFirst_mag (e : PortEvent) : (sendFirst e s).mag = s.mag := rfl
@[simp] theorem sendFirst_lowBin (e : PortEvent) : (sendFirst e s).lowBin = s.lowBin := rfl
@[simp] theorem sendFirst_highBin (e : PortEvent) : (sendFirst e s).highBin = s.highBin := rfl
@[simp] theorem sendFirst_bfLo (e : PortEvent) : (sendFirst e s).bfLo = s.bfLo := rfl
@[simp] theorem sendFirst_bfHi (e : PortEvent) : (sendFirst e s).bfHi = s.bfHi := rfl
@[simp] theorem sendFirst_num (e : PortEvent) : (sendFirst e s).num = s.num := rfl

/-! ## takeFault -/

@[simp] theorem takeFault_params (cw : Word64) (c : Word32) : (takeFault cw c s).params = s.params := rfl
@[simp] theorem takeFault_commandPort (cw : Word64) (c : Word32) : (takeFault cw c s).commandPort = s.commandPort := rfl
@[simp] theorem takeFault_responsePort (cw : Word64) (c : Word32) : (takeFault cw c s).responsePort = s.responsePort ++ [responseWord cw .faultTaken c] := rfl
@[simp] theorem takeFault_cfg (cw : Word64) (c : Word32) : (takeFault cw c s).cfg = s.cfg := rfl
@[simp] theorem takeFault_mode (cw : Word64) (c : Word32) : (takeFault cw c s).mode = .fault := rfl
@[simp] theorem takeFault_resValid (cw : Word64) (c : Word32) : (takeFault cw c s).resValid = s.resValid := rfl
@[simp] theorem takeFault_errCode (cw : Word64) (c : Word32) : (takeFault cw c s).errCode = c := rfl
@[simp] theorem takeFault_errCmdHi (cw : Word64) (c : Word32) : (takeFault cw c s).errCmdHi = cw.extractLsb' 32 32 := rfl
@[simp] theorem takeFault_errCmdLo (cw : Word64) (c : Word32) : (takeFault cw c s).errCmdLo = cw.extractLsb' 0 32 := rfl
@[simp] theorem takeFault_pushCnt (cw : Word64) (c : Word32) : (takeFault cw c s).pushCnt = s.pushCnt := rfl
@[simp] theorem takeFault_frameCnt (cw : Word64) (c : Word32) : (takeFault cw c s).frameCnt = s.frameCnt := rfl
@[simp] theorem takeFault_win (cw : Word64) (c : Word32) : (takeFault cw c s).win = s.win := rfl
@[simp] theorem takeFault_sm (cw : Word64) (c : Word32) : (takeFault cw c s).sm = s.sm := rfl
@[simp] theorem takeFault_rawDb (cw : Word64) (c : Word32) : (takeFault cw c s).rawDb = s.rawDb := rfl
@[simp] theorem takeFault_mag (cw : Word64) (c : Word32) : (takeFault cw c s).mag = s.mag := rfl
@[simp] theorem takeFault_lowBin (cw : Word64) (c : Word32) : (takeFault cw c s).lowBin = s.lowBin := rfl
@[simp] theorem takeFault_highBin (cw : Word64) (c : Word32) : (takeFault cw c s).highBin = s.highBin := rfl
@[simp] theorem takeFault_bfLo (cw : Word64) (c : Word32) : (takeFault cw c s).bfLo = s.bfLo := rfl
@[simp] theorem takeFault_bfHi (cw : Word64) (c : Word32) : (takeFault cw c s).bfHi = s.bfHi := rfl
@[simp] theorem takeFault_num (cw : Word64) (c : Word32) : (takeFault cw c s).num = s.num := rfl

/-! ## storeFrame -/

@[simp] theorem storeFrame_params (a : Analysis) : (storeFrame a s).params = s.params := rfl
@[simp] theorem storeFrame_commandPort (a : Analysis) : (storeFrame a s).commandPort = s.commandPort := rfl
@[simp] theorem storeFrame_responsePort (a : Analysis) : (storeFrame a s).responsePort = s.responsePort := rfl
@[simp] theorem storeFrame_cfg (a : Analysis) : (storeFrame a s).cfg = s.cfg := rfl
@[simp] theorem storeFrame_mode (a : Analysis) : (storeFrame a s).mode = s.mode := rfl
@[simp] theorem storeFrame_resValid (a : Analysis) : (storeFrame a s).resValid = true := rfl
@[simp] theorem storeFrame_errCode (a : Analysis) : (storeFrame a s).errCode = s.errCode := rfl
@[simp] theorem storeFrame_errCmdHi (a : Analysis) : (storeFrame a s).errCmdHi = s.errCmdHi := rfl
@[simp] theorem storeFrame_errCmdLo (a : Analysis) : (storeFrame a s).errCmdLo = s.errCmdLo := rfl
@[simp] theorem storeFrame_pushCnt (a : Analysis) : (storeFrame a s).pushCnt = s.pushCnt := rfl
@[simp] theorem storeFrame_frameCnt (a : Analysis) : (storeFrame a s).frameCnt = s.frameCnt + 1 := rfl
@[simp] theorem storeFrame_win (a : Analysis) : (storeFrame a s).win = s.win := rfl
@[simp] theorem storeFrame_sm (a : Analysis) : (storeFrame a s).sm = a.sm := rfl
@[simp] theorem storeFrame_rawDb (a : Analysis) : (storeFrame a s).rawDb = a.db := rfl
@[simp] theorem storeFrame_mag (a : Analysis) : (storeFrame a s).mag = a.mag := rfl
@[simp] theorem storeFrame_lowBin (a : Analysis) : (storeFrame a s).lowBin = s.lowBin := rfl
@[simp] theorem storeFrame_highBin (a : Analysis) : (storeFrame a s).highBin = s.highBin := rfl
@[simp] theorem storeFrame_bfLo (a : Analysis) : (storeFrame a s).bfLo = s.bfLo := rfl
@[simp] theorem storeFrame_bfHi (a : Analysis) : (storeFrame a s).bfHi = s.bfHi := rfl
@[simp] theorem storeFrame_num (a : Analysis) : (storeFrame a s).num = s.num := rfl

/-! ## storeSample -/

@[simp] theorem storeSample_params (v : F) : (storeSample v s).params = s.params := rfl
@[simp] theorem storeSample_commandPort (v : F) : (storeSample v s).commandPort = s.commandPort := rfl
@[simp] theorem storeSample_responsePort (v : F) : (storeSample v s).responsePort = s.responsePort := rfl
@[simp] theorem storeSample_cfg (v : F) : (storeSample v s).cfg = s.cfg := rfl
@[simp] theorem storeSample_mode (v : F) : (storeSample v s).mode = s.mode := rfl
@[simp] theorem storeSample_resValid (v : F) : (storeSample v s).resValid = s.resValid := rfl
@[simp] theorem storeSample_errCode (v : F) : (storeSample v s).errCode = s.errCode := rfl
@[simp] theorem storeSample_errCmdHi (v : F) : (storeSample v s).errCmdHi = s.errCmdHi := rfl
@[simp] theorem storeSample_errCmdLo (v : F) : (storeSample v s).errCmdLo = s.errCmdLo := rfl
@[simp] theorem storeSample_pushCnt (v : F) : (storeSample v s).pushCnt = s.pushCnt + 1 := rfl
@[simp] theorem storeSample_frameCnt (v : F) : (storeSample v s).frameCnt = s.frameCnt := rfl
@[simp] theorem storeSample_win (v : F) : (storeSample v s).win = pushWindow s.cfg.cap s.cfg.channels.toNat s.win v := rfl
@[simp] theorem storeSample_sm (v : F) : (storeSample v s).sm = s.sm := rfl
@[simp] theorem storeSample_rawDb (v : F) : (storeSample v s).rawDb = s.rawDb := rfl
@[simp] theorem storeSample_mag (v : F) : (storeSample v s).mag = s.mag := rfl
@[simp] theorem storeSample_lowBin (v : F) : (storeSample v s).lowBin = s.lowBin := rfl
@[simp] theorem storeSample_highBin (v : F) : (storeSample v s).highBin = s.highBin := rfl
@[simp] theorem storeSample_bfLo (v : F) : (storeSample v s).bfLo = s.bfLo := rfl
@[simp] theorem storeSample_bfHi (v : F) : (storeSample v s).bfHi = s.bfHi := rfl
@[simp] theorem storeSample_num (v : F) : (storeSample v s).num = s.num := rfl

/-! ## applyReset -/

@[simp] theorem applyReset_params : (applyReset s).params = s.params := rfl
@[simp] theorem applyReset_commandPort : (applyReset s).commandPort = s.commandPort := rfl
@[simp] theorem applyReset_responsePort : (applyReset s).responsePort = s.responsePort := rfl
@[simp] theorem applyReset_cfg : (applyReset s).cfg = Cfg.reset s.num := rfl
@[simp] theorem applyReset_mode : (applyReset s).mode = .idle := rfl
@[simp] theorem applyReset_resValid : (applyReset s).resValid = false := rfl
@[simp] theorem applyReset_errCode : (applyReset s).errCode = 0 := rfl
@[simp] theorem applyReset_errCmdHi : (applyReset s).errCmdHi = 0 := rfl
@[simp] theorem applyReset_errCmdLo : (applyReset s).errCmdLo = 0 := rfl
@[simp] theorem applyReset_pushCnt : (applyReset s).pushCnt = 0 := rfl
@[simp] theorem applyReset_frameCnt : (applyReset s).frameCnt = 0 := rfl
@[simp] theorem applyReset_win : (applyReset s).win = [] := rfl
@[simp] theorem applyReset_sm : (applyReset s).sm = [] := rfl
@[simp] theorem applyReset_rawDb : (applyReset s).rawDb = [] := rfl
@[simp] theorem applyReset_mag : (applyReset s).mag = [] := rfl
@[simp] theorem applyReset_lowBin : (applyReset s).lowBin = [] := rfl
@[simp] theorem applyReset_highBin : (applyReset s).highBin = [] := rfl
@[simp] theorem applyReset_bfLo : (applyReset s).bfLo = [] := rfl
@[simp] theorem applyReset_bfHi : (applyReset s).bfHi = [] := rfl
@[simp] theorem applyReset_num : (applyReset s).num = s.num := rfl

/-! ## started -/

@[simp] theorem started_params : (started s).params = s.params := rfl
@[simp] theorem started_commandPort : (started s).commandPort = s.commandPort := rfl
@[simp] theorem started_responsePort : (started s).responsePort = s.responsePort := rfl
@[simp] theorem started_cfg : (started s).cfg = s.cfg := rfl
@[simp] theorem started_mode : (started s).mode = .running := rfl
@[simp] theorem started_resValid : (started s).resValid = false := rfl
@[simp] theorem started_errCode : (started s).errCode = 0 := rfl
@[simp] theorem started_errCmdHi : (started s).errCmdHi = s.errCmdHi := rfl
@[simp] theorem started_errCmdLo : (started s).errCmdLo = s.errCmdLo := rfl
@[simp] theorem started_pushCnt : (started s).pushCnt = 0 := rfl
@[simp] theorem started_frameCnt : (started s).frameCnt = 0 := rfl
@[simp] theorem started_win : (started s).win = [] := rfl
@[simp] theorem started_sm : (started s).sm = smoothSeed s.cfg.numBands.toNat s.cfg.minDb := rfl
@[simp] theorem started_rawDb : (started s).rawDb = [] := rfl
@[simp] theorem started_mag : (started s).mag = [] := rfl
@[simp] theorem started_lowBin : (started s).lowBin = (bandLows s.num s.cfg.fLo (s.cfg.highBound s.num) s.cfg.numBands.toNat).map
      (lowBinOf s.num s.cfg.sampleRate.toNat s.cfg.fftSize.toNat) := rfl
@[simp] theorem started_highBin : (started s).highBin = (bandHighs s.num s.cfg.fLo (s.cfg.highBound s.num) s.cfg.numBands.toNat).map
      (highBinOf s.num s.cfg.sampleRate.toNat s.cfg.fftSize.toNat) := rfl
@[simp] theorem started_bfLo : (started s).bfLo = bandLows s.num s.cfg.fLo (s.cfg.highBound s.num) s.cfg.numBands.toNat := rfl
@[simp] theorem started_bfHi : (started s).bfHi = bandHighs s.num s.cfg.fLo (s.cfg.highBound s.num) s.cfg.numBands.toNat := rfl
@[simp] theorem started_num : (started s).num = s.num := rfl

end Sys2Proof.Machine
end

