-- ==== Sys2Proof/Laws/Ops.lean ====
section
/-! SUPPORT. For each shared operation, what it can do, said once. -/

namespace Sys2Proof.Machine

/-! ## The gate (R193 checks 1 and 3) -/

theorem gate_of_fault (i : Instr) (s : State) (body : State → State) (h : s.mode = .fault) :
    gate i s body = answerFaulted (encode i) s := by simp [gate, h]

theorem gate_of_wellFormed (i : Instr) (s : State) (body : State → State)
    (h : s.mode ≠ .fault) (hw : i.wellFormed = true) : gate i s body = body s := by simp [gate, h, hw]

theorem gate_of_badField (i : Instr) (s : State) (body : State → State)
    (h : s.mode ≠ .fault) (hw : i.wellFormed = false) :
    gate i s body = takeFault (encode i) ErrCode.fBadField s := by simp [gate, h, hw]

/-- Everything `gate` can do. -/
theorem gate_cases (i : Instr) (s : State) (body : State → State) :
    (s.mode = .fault ∧ gate i s body = respond (encode i) .faulted s.errCode s) ∨
    (s.mode ≠ .fault ∧ i.wellFormed = false ∧
      gate i s body = takeFault (encode i) ErrCode.fBadField s) ∨
    (s.mode ≠ .fault ∧ i.wellFormed = true ∧ gate i s body = body s) := by
  by_cases h : s.mode = .fault
  · exact .inl ⟨h, gate_of_fault i s body h⟩
  · cases hw : i.wellFormed
    · exact .inr (.inl ⟨h, rfl, gate_of_badField i s body h hw⟩)
    · exact .inr (.inr ⟨h, rfl, gate_of_wellFormed i s body h hw⟩)

/-- Everything `gateInFault` can do. -/
theorem gateInFault_cases (i : Instr) (s : State) (body : State → State) :
    (i.wellFormed = true ∧ gateInFault i s body = body s) ∨
    (i.wellFormed = false ∧ s.mode = .fault ∧
      gateInFault i s body = respond (encode i) .faulted s.errCode s) ∨
    (i.wellFormed = false ∧ s.mode ≠ .fault ∧
      gateInFault i s body = takeFault (encode i) ErrCode.fBadField s) := by
  cases hw : i.wellFormed
  · by_cases h : s.mode = .fault
    · exact .inr (.inl ⟨rfl, h, by simp [gateInFault, hw, h, answerFaulted]⟩)
    · exact .inr (.inr ⟨rfl, h, by simp [gateInFault, hw, h]⟩)
  · exact .inl ⟨rfl, by simp [gateInFault, hw]⟩

/-- Everything a reserved opcode can do (R74). -/
theorem illegalOpcode_cases (cw : Word64) (s : State) :
    (s.mode = .fault ∧ illegalOpcode cw s = respond cw .faulted s.errCode s) ∨
    (s.mode ≠ .fault ∧ illegalOpcode cw s = takeFault cw ErrCode.fIllegalOp s) := by
  by_cases h : s.mode = .fault
  · exact .inl ⟨h, by simp [illegalOpcode, h, answerFaulted]⟩
  · exact .inr ⟨h, by simp [illegalOpcode, h]⟩

/-- Everything an array read can do: one response, and a fault only for a field that should be zero. -/
theorem readArray_cases (i : Instr) (len : Word32) (needsFrame : Bool) (value : Word32) (s : State) :
    (∃ st d, readArray i len needsFrame value s = respond (encode i) st d s) ∨
    (s.mode ≠ .fault ∧ i.wellFormed = false ∧
      readArray i len needsFrame value s = takeFault (encode i) ErrCode.fBadField s) := by
  unfold readArray
  rcases gate_cases i s _ with ⟨_, h⟩ | ⟨hm, hw, h⟩ | ⟨_, _, h⟩
  · exact .inl ⟨_, _, h⟩
  · exact .inr ⟨hm, hw, h⟩
  · rw [h]
    left
    split_ifs
    · exact ⟨_, _, rfl⟩
    · exact ⟨_, _, rfl⟩
    · exact ⟨_, _, rfl⟩
    · exact ⟨_, _, rfl⟩

/-! ## The port -/

theorem fetch?_command (s : State) (e : PortEvent) (rest : List PortEvent) (h : s.commandPort = e :: rest) :
    fetch? s = some (e, { s with commandPort := rest }) := by simp [fetch?, h]

theorem fetch?_empty (s : State) (h : s.commandPort = []) : fetch? s = none := by simp [fetch?, h]

@[simp] theorem fetch?_sendFirst (e : PortEvent) (s : State) : fetch? (sendFirst e s) = some (e, s) := rfl

/-! ## The window (R100) -/

theorem pushWindow_of_room {V : Type} (cap c : Nat) (win : List V) (v : V) (h : win.length < cap) :
    pushWindow cap c win v = win ++ [v] := by
  simp [pushWindow]; omega

theorem pushWindow_of_full {V : Type} (cap c : Nat) (win : List V) (v : V) (h : cap ≤ win.length) :
    pushWindow cap c win v = (win ++ [v]).drop c := by
  simp [pushWindow]; omega

/-- The length of the window after a push. -/
theorem pushWindow_length {V : Type} (cap c : Nat) (win : List V) (v : V) :
    (pushWindow cap c win v).length = if win.length < cap then win.length + 1 else win.length + 1 - c := by
  split_ifs with h
  · simp [pushWindow_of_room cap c win v h]
  · simp [pushWindow_of_full cap c win v (by omega)]

/-- A push keeps the window within its capacity when a group is not empty (R40). -/
theorem pushWindow_length_le {V : Type} (cap c : Nat) (win : List V) (v : V) (hc : 0 < c)
    (h : win.length ≤ cap) : (pushWindow cap c win v).length ≤ cap := by
  rw [pushWindow_length]
  split_ifs <;> omega

/-! ## The lengths of what the stages make -/

section Lengths
variable {V : Type} (num : Numerics V)

@[simp] theorem downmix_length (c m : Nat) (win : List V) : (downmix num c m win).length = m := by
  simp [downmix]

@[simp] theorem magnitudeSpectrum_length (m : Nat) (frame : List V) : (magnitudeSpectrum num m frame).length = m := by
  simp [magnitudeSpectrum, magnitude, transform]

@[simp] theorem bandMap_length (lo hi : List Nat) (mag : List V) :
    (bandMap num lo hi mag).length = min lo.length hi.length := by simp [bandMap]

@[simp] theorem smoothAll_length (alpha : V) (sm db : List V) :
    (smoothAll num alpha sm db).length = min sm.length db.length := by simp [smoothAll]

@[simp] theorem smoothSeed_length (n : Nat) (minDb : V) : (smoothSeed n minDb).length = n := by
  simp [smoothSeed]

@[simp] theorem bandLows_length (fLo fHi : V) (n : Nat) : (bandLows num fLo fHi n).length = n := by
  simp [bandLows]

@[simp] theorem bandHighs_length (fLo fHi : V) (n : Nat) : (bandHighs num fLo fHi n).length = n := by
  simp [bandHighs]

end Lengths

/-- A clamped bin lies below the number of bins (R121). -/
theorem clampBin_lt (m : Nat) (x : Int) (h : 0 < m) : clampBin m x < m := by
  unfold clampBin; omega

/-- The clamp leaves a bin of the range as it is. -/
theorem clampBin_of_mem (m : Nat) (x : Int) (h0 : 0 ≤ x) (h1 : x < m) : clampBin m x = x.toNat := by
  unfold clampBin; omega

/-! ## Registers -/

/-- A register's number names it (R51). -/
@[simp] theorem regOfNumber?_number (r : Reg) : regOfNumber? r.number = some r := by cases r <;> rfl

end Sys2Proof.Machine
end

