-- ==== Sys2Proof/Laws/PerInstr.lean ====
section
/-! SUPPORT. A family of facts about every command as syntax: the fields of its word are its opcode, its IDX and its
DATA (R70). -/

namespace Sys2Proof.Laws

/-- The fields of a word put together from three fields are those fields. -/
theorem fields_of_append (op : Byte) (idx : Index) (data : Word32) :
    opField (op ++ idx ++ data) = op ∧ idxField (op ++ idx ++ data) = idx ∧ dataField (op ++ idx ++ data) = data := by
  refine ⟨?_, ?_, ?_⟩ <;>
  · apply BitVec.eq_of_getLsbD_eq
    intro k hk
    simp only [opField, idxField, dataField, BitVec.getLsbD_extractLsb', BitVec.getLsbD_append, hk, decide_true,
      Bool.true_and]
    split_ifs <;> first | omega | (congr 1; omega)

/-- The fields of the word of `i` are those of `i`. -/
def EncodedFields.Statement (i : Instr) : Prop :=
  opField (encode i) = i.opcode ∧ idxField (encode i) = i.idx ∧ dataField (encode i) = i.data

theorem EncodedFields.nop (idx : Index) (data : Word32) : EncodedFields.Statement (.nop idx data) :=
  fields_of_append _ _ _
theorem EncodedFields.reset (idx : Index) (data : Word32) : EncodedFields.Statement (.reset idx data) :=
  fields_of_append _ _ _
theorem EncodedFields.wrcfg (idx : Index) (data : Word32) : EncodedFields.Statement (.wrcfg idx data) :=
  fields_of_append _ _ _
theorem EncodedFields.rdreg (idx : Index) (data : Word32) : EncodedFields.Statement (.rdreg idx data) :=
  fields_of_append _ _ _
theorem EncodedFields.start (idx : Index) (data : Word32) : EncodedFields.Statement (.start idx data) :=
  fields_of_append _ _ _
theorem EncodedFields.pause (idx : Index) (data : Word32) : EncodedFields.Statement (.pause idx data) :=
  fields_of_append _ _ _
theorem EncodedFields.resume (idx : Index) (data : Word32) : EncodedFields.Statement (.resume idx data) :=
  fields_of_append _ _ _
theorem EncodedFields.quit (idx : Index) (data : Word32) : EncodedFields.Statement (.quit idx data) :=
  fields_of_append _ _ _
theorem EncodedFields.push (idx : Index) (data : Word32) : EncodedFields.Statement (.push idx data) :=
  fields_of_append _ _ _
theorem EncodedFields.frame (idx : Index) (data : Word32) : EncodedFields.Statement (.frame idx data) :=
  fields_of_append _ _ _
theorem EncodedFields.rdsm (idx : Index) (data : Word32) : EncodedFields.Statement (.rdsm idx data) :=
  fields_of_append _ _ _
theorem EncodedFields.rddb (idx : Index) (data : Word32) : EncodedFields.Statement (.rddb idx data) :=
  fields_of_append _ _ _
theorem EncodedFields.rdmag (idx : Index) (data : Word32) : EncodedFields.Statement (.rdmag idx data) :=
  fields_of_append _ _ _
theorem EncodedFields.rdblo (idx : Index) (data : Word32) : EncodedFields.Statement (.rdblo idx data) :=
  fields_of_append _ _ _
theorem EncodedFields.rdbhi (idx : Index) (data : Word32) : EncodedFields.Statement (.rdbhi idx data) :=
  fields_of_append _ _ _
theorem EncodedFields.rdflo (idx : Index) (data : Word32) : EncodedFields.Statement (.rdflo idx data) :=
  fields_of_append _ _ _
theorem EncodedFields.rdfhi (idx : Index) (data : Word32) : EncodedFields.Statement (.rdfhi idx data) :=
  fields_of_append _ _ _

end Sys2Proof.Laws
end

