-- ==== Sys2Proof/Tests/Slice0.lean ====
section
/-! SUPPORT. Tests of the model against the spec's own words and vectors, and for every statement with hypotheses a
concrete state that meets them. The source of an expected value is named beside it. -/

namespace Sys2Proof.Tests

open Sys2Proof.Machine

set_option Elab.async false

/-! ## Well-formedness: one ill-formed term for each check (R73, R75) -/

theorem test_illformed_nop_idx : (Instr.nop 1 0).wellFormed = false := by decide
theorem test_illformed_nop_data : (Instr.nop 0 1).wellFormed = false := by decide
theorem test_illformed_reset_idx : (Instr.reset 1 0).wellFormed = false := by decide
theorem test_illformed_reset_data : (Instr.reset 0 1).wellFormed = false := by decide
theorem test_illformed_rdreg_data : (Instr.rdreg 0 1).wellFormed = false := by decide
theorem test_illformed_start_idx : (Instr.start 1 0).wellFormed = false := by decide
theorem test_illformed_start_data : (Instr.start 0 1).wellFormed = false := by decide
theorem test_illformed_pause_idx : (Instr.pause 1 0).wellFormed = false := by decide
theorem test_illformed_pause_data : (Instr.pause 0 1).wellFormed = false := by decide
theorem test_illformed_resume_idx : (Instr.resume 1 0).wellFormed = false := by decide
theorem test_illformed_resume_data : (Instr.resume 0 1).wellFormed = false := by decide
theorem test_illformed_quit_idx : (Instr.quit 1 0).wellFormed = false := by decide
theorem test_illformed_quit_data : (Instr.quit 0 1).wellFormed = false := by decide
theorem test_illformed_push_idx : (Instr.push 1 0).wellFormed = false := by decide
theorem test_illformed_frame_idx : (Instr.frame 1 0).wellFormed = false := by decide
theorem test_illformed_frame_data : (Instr.frame 0 1).wellFormed = false := by decide
theorem test_illformed_rdsm_data : (Instr.rdsm 0 1).wellFormed = false := by decide
theorem test_illformed_rddb_data : (Instr.rddb 0 1).wellFormed = false := by decide
theorem test_illformed_rdmag_data : (Instr.rdmag 0 1).wellFormed = false := by decide
theorem test_illformed_rdblo_data : (Instr.rdblo 0 1).wellFormed = false := by decide
theorem test_illformed_rdbhi_data : (Instr.rdbhi 0 1).wellFormed = false := by decide
theorem test_illformed_rdflo_data : (Instr.rdflo 0 1).wellFormed = false := by decide
theorem test_illformed_rdfhi_data : (Instr.rdfhi 0 1).wellFormed = false := by decide
theorem test_wellformed_wrcfg : (Instr.wrcfg 0xFFFFFF 0xFFFFFFFF).wellFormed = true := by decide

/-! ## Decoding: one word of the spec for every command (R80, spec/95_test_vectors.md P1 to P4) -/

theorem test_decode_nop : decode 0x0000000000000000#64 = .ok (.nop 0 0) := by decide
theorem test_decode_reset : decode 0x0100000000000000#64 = .ok (.reset 0 0) := by decide
theorem test_decode_wrcfg : decode 0x020000020000AC44#64 = .ok (.wrcfg 2 44100) := by decide
theorem test_decode_rdreg : decode 0x0300001200000000#64 = .ok (.rdreg 0x12 0) := by decide
theorem test_decode_start : decode 0x0400000000000000#64 = .ok (.start 0 0) := by decide
theorem test_decode_pause : decode 0x0500000000000000#64 = .ok (.pause 0 0) := by decide
theorem test_decode_resume : decode 0x0600000000000000#64 = .ok (.resume 0 0) := by decide
theorem test_decode_quit : decode 0x0700000000000000#64 = .ok (.quit 0 0) := by decide
theorem test_decode_push : decode 0x10000000BF000000#64 = .ok (.push 0 0xBF000000) := by decide
theorem test_decode_frame : decode 0x1100000000000000#64 = .ok (.frame 0 0) := by decide
theorem test_decode_rdsm : decode 0x2000001100000000#64 = .ok (.rdsm 17 0) := by decide
theorem test_decode_rddb : decode 0x2100001F00000000#64 = .ok (.rddb 31 0) := by decide
theorem test_decode_rdmag : decode 0x2200005D00000000#64 = .ok (.rdmag 93 0) := by decide
theorem test_decode_rdblo : decode 0x2300001F00000000#64 = .ok (.rdblo 31 0) := by decide
theorem test_decode_rdbhi : decode 0x2400000300000000#64 = .ok (.rdbhi 3 0) := by decide
theorem test_decode_rdflo : decode 0x2500001100000000#64 = .ok (.rdflo 17 0) := by decide
theorem test_decode_rdfhi : decode 0x2600001F00000000#64 = .ok (.rdfhi 31 0) := by decide

theorem test_decode_unused_fields : decode 0x1000000100000000#64 = .ok (.push 1 0) := by decide
theorem test_decode_reserved : decode 0xFF00000000000000#64 = .error (.reservedOpcode 0xFF) := by decide
theorem test_decode_bytes_little_endian :
    decodeBytes [0x44, 0xAC, 0, 0, 2, 0, 0, 2, 7] = .ok (.wrcfg 2 44100, [7]) := by decide
theorem test_decode_bytes_short : decodeBytes [1, 2, 3, 4, 5, 6, 7] = .error .truncated := by decide
theorem test_decode_table_word : decodeTableWord 64 0x2200005D00000000 = some (.rdmag 93 0) := by decide
theorem test_decode_table_word_reserved : decodeTableWord 64 0x0800000000000000 = none := by decide

/-! ## Numbers (R10, spec/95_test_vectors.md section 0) -/

theorem test_word_minus_hundred : nearestWord? (-100) = some 0xC2C80000 := by decide +kernel
theorem test_word_four_fifths : nearestWord? (4 / 5) = some 0x3F4CCCCD := by decide +kernel
theorem test_word_least_subnormal : nearestWord? (binary32Value 0x80000001) = some 0x80000001 := by decide +kernel
theorem test_value_four_fifths_word :
    binary32Value 0x3F4CCCCD = 800000011920928955078125 / 10 ^ 24 := by decide +kernel
theorem test_nan_has_no_number : ofBits? (computedNumerics none) 0x7FC00000 = none := by decide
theorem test_negative_zero_is_zero : ofBits? (computedNumerics none) 0x80000000 = some 0 := by decide +kernel

/-! ## Stages (V5, V6, V9, V13, V15, V19) -/

theorem test_downmix_stereo :
    downmix (computedNumerics none) 2 4 [1, 0, 1, 0, -1, -1, -1, -1] = [1 / 2, 1 / 2, -1, -1] := by decide +kernel
theorem test_hann_four : hann (computedNumerics none) 4 [1, 1, 1, 1] = [0, 3 / 4, 3 / 4, 0] := by decide +kernel
theorem test_spectrum_impulse :
    magnitudeSpectrum (computedNumerics none) 4 [0, 1, 0, 0] = [3 / 16, 3 / 16, 3 / 16, 3 / 16] := by decide +kernel
theorem test_band_table :
    (bandLows (computedNumerics none) 20 500 2).map (lowBinOf (computedNumerics none) 1000 4) = [0, 0] ∧
    (bandHighs (computedNumerics none) 20 500 2).map (highBinOf (computedNumerics none) 1000 4) = [1, 2] := by
  decide +kernel
theorem test_band_empty : bandAverage (computedNumerics none) [1, 2, 3] 2 2 = 0 := by decide +kernel
theorem test_decibels_of_zero : decibels (computedNumerics none) 0 = -200 := by decide +kernel
theorem test_smooth_step : smooth (computedNumerics none) (4 / 5) (-120) (-200) = -136 := by decide +kernel

/-! ## Small states -/

/-- The state after the step of one outcome; the reset state for a stop, which no step is. -/
def after : Host.Outcome State Fault Refusal → State
  | .next s => s
  | _ => State.reset

/-- The state after one command word. -/
def afterWord (s : State) (cw : Word64) : State := after (step (sendFirst (.command cw) s))

/-- The last response of a state. -/
def lastResponse (s : State) : Option Word64 := s.responsePort.getLast?

theorem exec_after (i : Instr) (s : State) : exec i s = .next (after (exec i s)) := by cases i <;> rfl

theorem step_after (s : State) : step s = .next (after (step s)) := by
  unfold step
  split
  · rfl
  · rfl
  · split
    · exact exec_after _ _
    · rfl

/-- IDLE, with the configuration of P1 but FFT_SIZE 2 and one band. -/
def idleState : State :=
  { State.reset with
    cfg := { Cfg.reset (computedNumerics none) with
      fftSize := 2, numBands := 1, sampleRate := 1000, channels := 1, alpha := 1 / 2 } }

/-- RUNNING, just after START. -/
def runState : State := started idleState

/-- RUNNING with a full window. -/
def fullState : State := { runState with win := [1, 1], pushCnt := 2 }

/-- RUNNING with a produced frame. -/
def frameState : State := storeFrame (analyse fullState) fullState

/-- Stereo: FFT_SIZE 4, CHANNELS 2, the full window of V4 and P2. -/
def stereoState : State :=
  { runState with
    cfg := { runState.cfg with fftSize := 4, channels := 2 }
    win := [1, 0, 1, 0, 1, 0, 1, 0] }

def pausedState : State := setMode .paused fullState
def stoppedState : State := setMode .stopped frameState

/-- FAULT, as P4 step 31 leaves it. -/
def faultState : State := takeFault 0x1000000100000000#64 ErrCode.fBadField runState

/-- RUNNING with a full window under a NUM in which −200 is not finite. -/
def narrowState : State := { fullState with params := { fullState.params with numerics := .computed (some 100) } }

/-! ## Commands (each expected response from the vector named) -/

-- V25, V30
theorem test_nop : lastResponse (afterWord stoppedState 0) = some 0 := by decide +kernel
theorem test_nop_in_fault : lastResponse (afterWord faultState 0) = some 0x8100000000000011 := by decide +kernel
-- V30, P4 step 41
theorem test_reset_leaves_fault :
    afterWord faultState 0x0100000000000000#64 =
      { State.reset with responsePort := [0x8000001000000011, 0x0000000100000000] } := by decide +kernel
theorem test_reset_with_data_in_fault :
    lastResponse (afterWord faultState 0x0100000000000001#64) = some 0x8100000100000011 := by decide +kernel
-- P1 step 3, V27
theorem test_wrcfg_sample_rate : (afterWord State.reset 0x02000002000003E8#64).cfg.sampleRate = 1000 := by
  decide +kernel
theorem test_wrcfg_nan : lastResponse (afterWord State.reset 0x020000047FC00000#64) = some 0x0600000200000000 := by
  decide +kernel
-- R151, V26
theorem test_rdreg_alpha : lastResponse (afterWord State.reset 0x0300000500000000#64) = some 0x000000033F4CCCCD := by
  decide +kernel
theorem test_rdreg_reserved : lastResponse (afterWord faultState 0x0300001800000000#64) = some 0x0400000300000000 := by
  decide +kernel
-- V23, P4 step 38
theorem test_start_refused : lastResponse (afterWord State.reset 0x0400000000000000#64) = some 0x0700000400000003 := by
  decide +kernel
theorem test_start : (afterWord idleState 0x0400000000000000#64).sm = [-100] ∧
    (afterWord idleState 0x0400000000000000#64).bfHi = [500] := by decide +kernel
theorem test_reserved_opcode : lastResponse (afterWord idleState 0x0800000000000000#64) = some 0x8000000800000010 := by
  decide +kernel
-- V23
theorem test_pause : lastResponse (afterWord runState 0x0500000000000000#64) = some 0x0000000500000002 := by
  decide +kernel
theorem test_resume : lastResponse (afterWord pausedState 0x0600000000000000#64) = some 0x0000000600000001 := by
  decide +kernel
theorem test_resume_running : lastResponse (afterWord runState 0x0600000000000000#64) = some 0x0300000600000001 := by
  decide +kernel
theorem test_quit : lastResponse (afterWord pausedState 0x0700000000000000#64) = some 0x0000000700000003 := by
  decide +kernel
theorem test_quit_stopped : lastResponse (afterWord stoppedState 0x0700000000000000#64) = some 0x0300000700000003 := by
  decide +kernel
-- P2 step 30, V29
theorem test_push_evicts_group : (afterWord stereoState 0x10000000BF800000#64).win = [1, 0, 1, 0, 1, 0, -1] := by
  decide +kernel
theorem test_push_nan : lastResponse (afterWord runState 0x100000007FC00000#64) = some 0x8000001000000012 := by
  decide +kernel
-- P1 steps 10 and 12, R224
theorem test_frame_not_ready : lastResponse (afterWord runState 0x1100000000000000#64) = some 0x0100001100000000 := by
  decide +kernel
theorem test_frame_smooths : (afterWord fullState 0x1100000000000000#64).sm = [-150] ∧
    (afterWord frameState 0x1100000000000000#64).sm = [-175] := by decide +kernel
-- V28, R152 to R158
theorem test_rdsm : lastResponse (afterWord runState 0x2000000000000000#64) = some 0x00000020C2C80000 := by
  decide +kernel
theorem test_rdsm_idle : lastResponse (afterWord State.reset 0x2000000000000000#64) = some 0x0300002000000000 := by
  decide +kernel
theorem test_rddb_not_valid : lastResponse (afterWord runState 0x2100000000000000#64) = some 0x0500002100000000 := by
  decide +kernel
theorem test_rddb_index_first : lastResponse (afterWord runState 0x2100006300000000#64) = some 0x0400002100000000 := by
  decide +kernel
theorem test_rdmag : lastResponse (afterWord frameState 0x2200000100000000#64) = some 0x0000002200000000 := by
  decide +kernel
theorem test_rdblo : lastResponse (afterWord runState 0x2300000000000000#64) = some 0x0000002300000000 := by
  decide +kernel
theorem test_rdbhi : lastResponse (afterWord runState 0x2400000000000000#64) = some 0x0000002400000001 := by
  decide +kernel
theorem test_rdflo : lastResponse (afterWord runState 0x2500000000000000#64) = some 0x0000002541A00000 := by
  decide +kernel
theorem test_rdfhi : lastResponse (afterWord stoppedState 0x2600000000000000#64) = some 0x0000002643FA0000 := by
  decide +kernel
theorem test_hardware_reset : after (step (sendFirst .hardwareReset fullState)) = State.reset := by decide +kernel
theorem test_fetch_word : step (State.reset.withFetchWord 64 0x0300001000000000) =
    .next { State.reset with responsePort := [0x0000000300000000] } := by rfl

/-! ## The textual form (R78, R79) and the host (R171) -/

theorem test_assemble_wrcfg : assembleLine "WRCFG ALPHA, 0.5   # half".toList = some [0x020000053F000000] := by
  decide +kernel
theorem test_assemble_program : assemble "RDBAND 3\n\n.word 0x0800000000000000".toList =
    some [0x2500000300000000, 0x2600000300000000, 0x2000000300000000, 0x0800000000000000] := by decide +kernel
/-- A host of the default hop for the configuration of `idleState`, one time index (R172). -/
def testHost (samples : List Word32) : HostParams :=
  HostParams.defaults State.reset.num idleState.cfg 10 samples

/-- No control signal is pending. -/
def noSignal : Signals := { quit := false, pause := false, resume := false }

theorem test_hop_iteration :
    (hopIteration (testHost [1, 2, 3]) { cursor := 1, paused := true } { noSignal with resume := true }).commands =
    [.resume 0 0, .push 0 2, .frame 0 0] := by decide +kernel
-- R171: what differs from reset, SAMPLE_RATE and CHANNELS always
theorem test_construction :
    construction State.reset.num { Cfg.reset State.reset.num with fftSize := 4, alpha := 1 / 2 } =
    [.wrcfg 0 4, .wrcfg 2 0, .wrcfg 3 0, .wrcfg 5 0x3F000000, .start 0 0] := by decide +kernel
-- R5, R172, R175
theorem test_host_defaults :
    (HostParams.defaults State.reset.num (Cfg.reset State.reset.num) 0 []).hopSize = 2048 ∧
    (testHost []).maxDb = 0 ∧ (testHost []).legal State.reset.num = true := by decide +kernel
-- R171: a START that is not answered OK
theorem test_host_gives_up :
    (hostRun { testHost [0, 0] with cfg := Cfg.reset State.reset.num } [noSignal] State.reset).ending =
    .startRefused := by decide +kernel
-- R133, R175: silence renders no bar; R174 (a)
theorem test_host_silence :
    (hostRun (testHost [0, 0]) [noSignal, noSignal, noSignal] State.reset).ending = .finished ∧
    (hostRun (testHost [0, 0]) [noSignal, noSignal, noSignal] State.reset).rendered.map
      (fun bars => bars.map (·.length)) = [[some 0]] := by decide +kernel
-- R174 (c): the host reads F_BAD_SAMPLE and resets
theorem test_host_fault :
    (hostRun (testHost [0x7F800000]) [noSignal] State.reset).ending = .faulted 0x12 ∧
    (hostRun (testHost [0x7F800000]) [noSignal] State.reset).engine.mode = .idle := by decide +kernel

/-! ## The invariant has states -/

theorem inv_runState : EngineInv runState where
  params := by decide
  cfgFlags := by decide
  window := by decide
  idle h := by cases h
  constructed _ := by constructor <;> decide +kernel
  results := by decide
  counted h := absurd rfl h
  faultCode h := by cases h
  idleCode h := by cases h
  runCode _ := rfl
  errCmd _ := ⟨rfl, rfl⟩

theorem inv_frameState : EngineInv frameState where
  params := by decide
  cfgFlags := by decide
  window := by decide
  idle h := by cases h
  constructed _ := by constructor <;> decide +kernel
  results := by decide +kernel
  counted _ := rfl
  faultCode h := by cases h
  idleCode h := by cases h
  runCode _ := rfl
  errCmd _ := ⟨rfl, rfl⟩

/-! ## Witnesses: states and operands that meet the hypotheses of the statements -/

theorem witness_EncodeOfDecode : decode 0x2200005D00000000#64 = .ok (.rdmag 93 0) := by decide

theorem witness_ReservedOpcodesRejected :
    (∀ op ∈ ([0x08, 0x0F, 0x12, 0x1F, 0x27, 0xFF] : List Byte), isReservedOpcode op = true) ∧
    (∀ op ∈ ([0x00, 0x07, 0x10, 0x11, 0x20, 0x26] : List Byte), isReservedOpcode op = false) := by decide

/-- A state with one command word at its port. -/
def withWord (s : State) (cw : Word64) : State := { s with commandPort := [.command cw] }

theorem witness_StepRunsDecodedCommand :
    (withWord State.reset 0).commandPort = [.command 0] ∧ decode 0 = .ok (.nop 0 0) := by decide

theorem witness_ReservedOpcodeFaults :
    isReservedOpcode (opField 0x0800000000000000#64) = true ∧ (withWord runState 0x0800000000000000#64).mode ≠ .fault ∧
    (withWord faultState 0x0800000000000000#64).mode = .fault ∧
    (withWord faultState 0x0800000000000000#64).commandPort = [.command 0x0800000000000000#64] := by decide +kernel

theorem witness_EveryCommandAnsweredOnce : (withWord runState 5).commandPort = .command 5 :: [] := rfl

theorem witness_ResponsesFollowCommands :
    ({ runState with commandPort := [.command 5, .command 6] } : State).commandPort =
      [(5 : Word64), 6].map PortEvent.command := rfl

theorem witness_NothingHappensBetweenCommands : State.reset.commandPort = [] := rfl

theorem witness_ParametersNeverChange : step (withWord runState 0) = .next (after (step (withWord runState 0))) :=
  step_after _

theorem witness_ResetHappensInBothWays :
    ({ fullState with commandPort := [.hardwareReset] } : State).commandPort = .hardwareReset :: [] := rfl

theorem witness_ResetValues :
    Instr.rdmag 4095 0 ∈ [Instr.rdsm 4095 0, .rddb 4095 0, .rdmag 4095 0, .rdblo 4095 0, .rdbhi 4095 0, .rdflo 4095 0,
      .rdfhi 4095 0] := by decide

theorem witness_UnusedFieldFaults : (Instr.push 1 0).wellFormed = false ∧ runState.mode ≠ .fault := by decide

theorem witness_FaultEntryIsPrecise :
    (withWord runState 0x100000007F800000).mode ≠ .fault ∧
    step (withWord runState 0x100000007F800000) = .next (after (step (withWord runState 0x100000007F800000))) ∧
    (after (step (withWord runState 0x100000007F800000))).mode = .fault :=
  ⟨by decide, step_after _, by decide +kernel⟩

theorem witness_FaultModeLetsOnlyResetAndRdreg :
    faultState.mode = .fault ∧ (withWord faultState resetWord).commandPort = [.command resetWord] ∧
    decode resetWord = .ok (.reset 0 0) ∧
    decode 0x0300001700000000#64 = .ok (.rdreg 0x17 0) ∧ regOfNumber? 0x17 = some .frameCnt ∧
    decode 0x0300001800000000#64 = .ok (.rdreg 0x18 0) ∧ regOfNumber? 0x18 = none ∧
    decode 0x0100000000000001#64 ≠ .ok (.reset 0 0) := by decide +kernel

theorem witness_FaultLastsUntilReset :
    ({ faultState with commandPort := [.command 5, .command 6] } : State).mode = .fault ∧
    ∀ cw ∈ [(5 : Word64), 6], cw ≠ resetWord := by
  refine ⟨rfl, fun cw h => ?_⟩
  simp only [List.mem_cons, List.not_mem_nil, or_false] at h
  rcases h with rfl | rfl <;> decide

theorem witness_LegalityTable :
    (Instr.push 0 0).wellFormed = true ∧ refusedIn (.push 0 0) pausedState.mode = some .notAccepted ∧
    refusedIn (.push 0 0) runState.mode = none ∧
    exec (.push 0 0) runState = .next (after (exec (.push 0 0) runState)) ∧
    (withWord pausedState 0x1000000100000000).mode ≠ .fault ∧
    decode 0x1000000100000000 = .ok (.push 1 0) ∧ (Instr.push 1 0).wellFormed = false ∧
    isReservedOpcode (opField 0xFF00000000000000) = true :=
  ⟨by decide, by decide, by decide, exec_after _ _, by decide, by decide, by decide, by decide⟩

theorem witness_ModeTransitionsComplete :
    step (withWord runState 0) = .next (after (step (withWord runState 0))) ∧
    resetComes (withWord faultState resetWord) ∧
    (idleState.mode = .idle ∧ commandComes (withWord idleState 0x0400000000000000) (.start 0 0)) ∧
    (runState.mode = .running ∧ commandComes (withWord runState 0x0500000000000000) (.pause 0 0)) ∧
    (pausedState.mode = .paused ∧ commandComes (withWord pausedState 0x0600000000000000) (.resume 0 0)) ∧
    commandComes (withWord pausedState 0x0700000000000000) (.quit 0 0) ∧
    (after (step (withWord runState 0xFF00000000000000))).responsePort =
      (withWord runState 0xFF00000000000000).responsePort ++ [responseWord 0xFF00000000000000 .faultTaken 0x10] :=
  ⟨step_after _, .inr ⟨[], rfl⟩, ⟨rfl, [], rfl⟩, ⟨rfl, [], rfl⟩, ⟨rfl, [], rfl⟩, ⟨[], rfl⟩, by decide +kernel⟩

theorem witness_ControlSignalsMoveTheMode : runState.mode = .running ∧ pausedState.mode = .paused := by decide

theorem witness_NopDoesNothing : runState.mode ≠ .fault := by decide

theorem witness_PauseThenResumeContinues :
    let s : State := { pausedState with commandPort :=
      [.command 0x10000000BF800000, .command 0x1100000000000000, .command 0x0600000000000000] }
    let cs : List Instr := [.push 0 0xBF800000, .frame 0 0]
    s.mode = .paused ∧ (∀ i ∈ cs, i = .frame 0 0 ∨ ∃ d, i = .push 0 d) ∧
    s.commandPort = cs.map (fun i => .command (encode i)) ++ [.command (encode (.resume 0 0))] := by
  refine ⟨rfl, ?_, by decide⟩
  intro i hi
  simp only [List.mem_cons, List.not_mem_nil, or_false] at hi
  rcases hi with rfl | rfl
  · exact .inr ⟨_, rfl⟩
  · exact .inl rfl

theorem witness_StartConstructsPipeline : idleState.mode = .idle ∧ validate idleState.params idleState.cfg = 0 := by
  decide +kernel

theorem witness_StartRefusedWritesOnlyErrcode :
    State.reset.mode = .idle ∧ validate State.reset.params State.reset.cfg ≠ 0 := by decide +kernel

/-- One configuration for each check of R143 that fails first, and a legal one at the limits (V24). -/
theorem witness_ValidationReportsFirstFailure :
    validate Params.suggested { idleState.cfg with fftSize := 12, numBands := 0 } = 1 ∧
    validate Params.suggested { idleState.cfg with numBands := 1025 } = 2 ∧
    validate Params.suggested { idleState.cfg with sampleRate := 0 } = 3 ∧
    validate Params.suggested { idleState.cfg with channels := 9 } = 4 ∧
    validate Params.suggested { idleState.cfg with alpha := 1 } = 5 ∧
    validate Params.suggested { idleState.cfg with sampleRate := 40 } = 6 ∧
    validate Params.suggested { idleState.cfg with fftSize := 65536, channels := 8, sampleRate := 41, alpha := 0 } = 0 := by
  decide +kernel

theorem witness_PushAppendsAndEvicts :
    runState.mode = .running ∧ isNonFiniteWord 0x7F7FFFFF = false ∧ runState.win.length < runState.cfg.cap ∧
    stereoState.mode = .running ∧ stereoState.cfg.cap ≤ stereoState.win.length := by decide +kernel

theorem witness_PushOfNonFiniteWordFaults : runState.mode = .running ∧ isNonFiniteWord 0x7F800000 = true := by decide

/-- The state and samples that meet WindowHoldsLatestGroups: one stereo group into an empty window. -/
def groupState : State :=
  { stereoState with win := [], commandPort := [.command 0x100000003F800000, .command 0x1000000000000000] }

theorem witness_WindowHoldsLatestGroups :
    groupState.mode = .running ∧ groupState.win = [] ∧ 0 < groupState.cfg.channels.toNat ∧
    ([0x3F800000, 0] : List Word32).length = 1 * groupState.cfg.channels.toNat ∧
    (∀ d ∈ ([0x3F800000, 0] : List Word32), isNonFiniteWord d = false) ∧
    groupState.commandPort = ([0x3F800000, 0] : List Word32).map (fun d => .command (encode (.push 0 d))) :=
  ⟨rfl, rfl, by decide, rfl, by simp; decide, by decide +kernel⟩

theorem witness_FrameRunsThePipeline :
    fullState.mode = .running ∧ fullState.win.length = fullState.cfg.cap ∧
    (∀ x ∈ (analyse fullState).mag, fullState.num.isFinite x = true) ∧
    (∀ x ∈ (analyse fullState).db, fullState.num.isFinite x = true) ∧
    (∀ x ∈ (analyse fullState).sm, fullState.num.isFinite x = true) := by decide +kernel

theorem witness_FrameNotReady : runState.mode = .running ∧ runState.win.length ≠ runState.cfg.cap := by decide +kernel

theorem witness_FrameNumericFault :
    narrowState.mode = .running ∧ narrowState.win.length = narrowState.cfg.cap ∧
    -200 ∈ (analyse narrowState).db ∧ narrowState.num.isFinite (-200) = false := by decide +kernel

theorem witness_FrameRepeatedSmoothsAgain :
    fullState.mode = .running ∧ fullState.win.length = fullState.cfg.cap ∧
    allFinite fullState.num (analyse fullState) = true ∧
    exec (.frame 0 0) fullState = .next (after (exec (.frame 0 0) fullState)) ∧
    exec (.frame 0 0) (after (exec (.frame 0 0) fullState)) =
      .next (after (exec (.frame 0 0) (after (exec (.frame 0 0) fullState)))) ∧
    (after (exec (.frame 0 0) (after (exec (.frame 0 0) fullState)))).mode = .running :=
  ⟨by decide, by decide, by decide +kernel, exec_after _ _, exec_after _ _, by decide +kernel⟩

theorem witness_WrcfgStoresTheValue :
    State.reset.mode = .idle ∧ isNonFiniteWord 0xFF7FFFFF = false ∧ ((1 : Word32) = 0 ∨ (1 : Word32) = 1) := by decide

theorem witness_WrcfgRefusals :
    State.reset.mode = .idle ∧ 8 < (9 : Index).toNat ∧ 4 ≤ (7 : Index).toNat ∧ (7 : Index).toNat ≤ 7 ∧
    isNonFiniteWord 0x7FC00000 = true ∧ (2 : Word32) ≠ 0 ∧ (2 : Word32) ≠ 1 := by decide

theorem witness_RdregReservedNumber :
    (0x09 ≤ (0x0F : Index).toNat ∧ (0x0F : Index).toNat ≤ 0x0F) ∧ 0x18 ≤ (0x18 : Index).toNat := by decide

theorem witness_ConfigurationReadsBack :
    State.reset.mode = .idle ∧
    State.reset.num.toBits (finiteValue State.reset 0x3F000000) = 0x3F000000 ∧
    State.reset.num.toBits (finiteValue State.reset negativeZero) = 0 ∧
    exec (.wrcfg 5 0x3F000000) State.reset = .next (after (exec (.wrcfg 5 0x3F000000) State.reset)) ∧
    (after (exec (.wrcfg 5 0x3F000000) State.reset)).responsePort =
      State.reset.responsePort ++ [responseWord (encode (.wrcfg 5 0x3F000000)) .ok 0x3F000000] :=
  ⟨rfl, by decide +kernel, by decide +kernel, exec_after _ _, by decide +kernel⟩

theorem witness_ArrayReadsAnswerTheElement :
    EngineInv frameState ∧ (frameState.mode = .running ∨ frameState.mode = .paused ∨ frameState.mode = .stopped) ∧
    (0 : Index).toNat < frameState.cfg.numBands.toNat ∧ (1 : Index).toNat < frameState.cfg.fftSize.toNat ∧
    frameState.resValid = true :=
  ⟨inv_frameState, .inl rfl, by decide, by decide, rfl⟩

theorem witness_ArrayReadRefusals :
    runState.mode = .running ∧ runState.cfg.numBands.toNat ≤ (1 : Index).toNat ∧
    runState.cfg.fftSize.toNat ≤ (2 : Index).toNat ∧ (0 : Index).toNat < runState.cfg.numBands.toNat ∧
    (1 : Index).toNat < runState.cfg.fftSize.toNat ∧ runState.resValid = false := by decide

theorem witness_ReadsHaveNoSideEffect :
    Instr.rdsm 0 0 ∈ [Instr.rdreg 0 0, .rdsm 0 0, .rddb 0 0, .rdmag 0 0, .rdblo 0 0, .rdbhi 0 0, .rdflo 0 0,
      .rdfhi 0 0] := by decide

theorem witness_ConfigurationLockedOutsideIdle :
    step (withWord State.reset 0x0200000000000004) = .next (after (step (withWord State.reset 0x0200000000000004))) ∧
    (after (step (withWord State.reset 0x0200000000000004))).cfg ≠ (withWord State.reset 0x0200000000000004).cfg :=
  ⟨step_after _, by decide +kernel⟩

/-- PUSH changes the window, FRAME changes SM, START changes the band table; none of the three is a reset. -/
theorem witness_ArraysHaveTheirWriters :
    (after (step (withWord runState 0x100000003F800000))).win ≠ runState.win ∧
    (after (step (withWord fullState 0x1100000000000000))).sm ≠ fullState.sm ∧
    (after (step (withWord idleState 0x0400000000000000))).bfLo ≠ idleState.bfLo ∧
    ¬ resetComes (withWord runState 0x100000003F800000) ∧ ¬ resetComes (withWord fullState 0x1100000000000000) ∧
    ¬ resetComes (withWord idleState 0x0400000000000000) := by
  refine ⟨by decide +kernel, by decide +kernel, by decide +kernel, ?_, ?_, ?_⟩ <;>
  · rintro (⟨_, h⟩ | ⟨_, h⟩)
    · cases h
    · exact absurd h (by intro h; injection h with h _; revert h; decide)

/-- A FRAME on the state of `frameState`. -/
theorem witness_StepKeepsInvariant :
    EngineInv (withWord frameState 0x1100000000000000) ∧
    step (withWord frameState 0x1100000000000000) = .next (after (step (withWord frameState 0x1100000000000000))) :=
  ⟨{ params := inv_frameState.params
     cfgFlags := inv_frameState.cfgFlags
     window := inv_frameState.window
     idle := fun h => by cases h
     constructed := fun _ => by constructor <;> decide +kernel
     results := inv_frameState.results
     counted := inv_frameState.counted
     faultCode := fun h => by cases h
     idleCode := fun h => by cases h
     runCode := inv_frameState.runCode
     errCmd := inv_frameState.errCmd }, step_after _⟩

theorem witness_InvariantHoldsOnEveryRun :
    Params.suggested.Legal ∧
    Host.Core.run core 1 { State.resetOf Params.suggested with commandPort := [] } = .next State.reset :=
  ⟨by decide, rfl⟩

theorem witness_HannWeightsSymmetric : 2 ≤ 4096 ∧ 4095 < 4096 := by decide

theorem witness_SpectrumMirrored : ([1, 0, -1, 0] : List ℝ).length = 4 ∧ 1 ≤ 3 ∧ 3 < 4 := by simp

theorem witness_SpectrumScalesWithAmplitude : ([1, 0, -1, 0] : List ℝ).length = 4 := rfl

theorem witness_ConstantFrameConcentratesAtDc : 4 ≤ 8 ∧ 8 % 2 = 0 := by decide

theorem witness_SilenceIsMinusTwoHundred : ([0, 0] : List Nat).length = ([1, 2] : List Nat).length := rfl

theorem witness_DecibelsBoundedBelow : (0 : ℝ) ≤ 0 ∧ (0 : ℝ) < 1 := by norm_num

/-- The default bounds at 44100 Hz. -/
theorem witness_BoundariesPartitionTheRange : RealBounds 20 22050 44100 ∧ 30 + 1 < 32 := by
  unfold RealBounds; norm_num

theorem witness_EveryBandHasItsBins : RealBounds 20 500 1000 ∧ 2 ≤ 4 ∧ 4 % 2 = 0 ∧ 1 < 2 := by
  unfold RealBounds; norm_num

theorem witness_SmoothingStaysBetween : (0 : ℝ) ≤ 4 / 5 ∧ (4 / 5 : ℝ) < 1 := by norm_num

end Sys2Proof.Tests
end

/-! The parameters never change (R7, R20). -/

namespace Sys2Proof.Proofs

open Sys2Proof Sys2Proof.Machine

/-! ## No command changes the parameters -/

section Parameters

variable {s t : State} {i : Instr} {body : State → State}

theorem gate_params (hbody : (body s).params = s.params) : (gate i s body).params = s.params := by
  rcases gate_cases i s body with ⟨_, h⟩ | ⟨_, _, h⟩ | ⟨_, _, h⟩
  · rw [h, respond_params]
  · rw [h, takeFault_params]
  · rw [h, hbody]

theorem gateInFault_params (hbody : (body s).params = s.params) : (gateInFault i s body).params = s.params := by
  rcases gateInFault_cases i s body with ⟨_, h⟩ | ⟨_, _, h⟩ | ⟨_, _, h⟩
  · rw [h, hbody]
  · rw [h, respond_params]
  · rw [h, takeFault_params]

@[simp] theorem readArray_params (i : Instr) (len : Word32) (needsFrame : Bool) (value : Word32) (s : State) :
    (readArray i len needsFrame value s).params = s.params := by
  rcases readArray_cases i len needsFrame value s with ⟨_, _, h⟩ | ⟨_, _, h⟩
  · rw [h, respond_params]
  · rw [h, takeFault_params]

@[simp] theorem answerBadMode_params (cw : Word64) (s : State) : (answerBadMode cw s).params = s.params := rfl

@[simp] theorem illegalOpcode_params (cw : Word64) (s : State) : (illegalOpcode cw s).params = s.params := by
  rcases illegalOpcode_cases cw s with ⟨_, h⟩ | ⟨_, h⟩
  · rw [h, respond_params]
  · rw [h, takeFault_params]

theorem fetch?_params {e : PortEvent} (h : fetch? s = some (e, t)) : t.params = s.params := by
  unfold fetch? at h
  split at h
  · cases h
  · cases h; rfl

/-- Every command keeps the parameters: the gate keeps them, and so does each branch of each body. -/
theorem exec_params (h : exec i s = .next t) : t.params = s.params := by
  cases i with
  | nop => cases h; exact gate_params rfl
  | reset => cases h; exact gateInFault_params rfl
  | wrcfg =>
    cases h
    refine gate_params ?_
    split_ifs
    · simp
    · split
      · simp
      · split_ifs
        · simp
        · split <;> simp
  | rdreg => cases h; refine gateInFault_params ?_; split <;> simp
  | start => cases h; refine gate_params ?_; split_ifs <;> simp
  | pause => cases h; refine gate_params ?_; split_ifs <;> simp
  | resume => cases h; refine gate_params ?_; split_ifs <;> simp
  | quit => cases h; refine gate_params ?_; split_ifs <;> simp
  | push =>
    cases h
    refine gate_params ?_
    split
    · simp
    · simp
    · simp
    · split <;> simp
    · split <;> simp
  | frame =>
    cases h
    refine gate_params ?_
    split
    · simp
    · simp
    · simp
    · split_ifs <;> simp
    · split_ifs <;> simp
  | rdsm | rddb | rdmag | rdblo | rdbhi | rdflo | rdfhi => cases h; exact readArray_params ..

end Parameters

/-- Settles O13, over the three things a step can find at the port: nothing, a hardware reset, a command word. -/
theorem parametersNeverChange : Obligations.ParametersNeverChange := by
  intro s t h
  unfold step at h
  split at h
  case h_1 => cases h; rfl
  case h_2 found hfetch => cases h; rw [applyReset_params, fetch?_params hfetch]
  case h_3 cw found hfetch =>
    rw [← fetch?_params hfetch]
    split at h
    · exact exec_params h
    · cases h; exact illegalOpcode_params cw found

end Sys2Proof.Proofs


/-! The computed numerics give back every finite word (R7, R10): the nearest word of the number of a word is that word.
Everything rests on the ratio `a / d` of a number being `m · 2^(e − 150)`, where `m` is the significand of the word and
`e` its scale. -/

namespace Sys2Proof.Proofs

open Sys2Proof Sys2Proof.Machine

/-! ## The roundings of the model on a ratio -/

theorem roundHalfEven_mul_self (q : Nat) {d : Nat} (hd : 0 < d) : roundHalfEven (q * d) d = q := by
  simp [roundHalfEven, hd]

section Ratio

variable {a d : Nat}

/-- The test `floorLog2` makes of its first guess, as an inequality of rationals. -/
theorem floorLog2_test_iff (hd : 0 < d) (e : Int) :
    (if 0 ≤ e then d * 2 ^ e.toNat ≤ a else d ≤ a * 2 ^ (-e).toNat) ↔ (2 : ℚ) ^ e ≤ (a : ℚ) / d := by
  have hd' : (0 : ℚ) < d := by exact_mod_cast hd
  rw [le_div_iff₀ hd']
  obtain ⟨n, rfl | rfl⟩ := e.eq_nat_or_neg
  · simp only [Int.natCast_nonneg, if_true, Int.toNat_natCast, zpow_natCast, mul_comm d]
    exact_mod_cast Iff.rfl
  · have hpos : (0 : ℚ) < 2 ^ n := by positivity
    rw [zpow_neg, zpow_natCast, inv_mul_le_iff₀ hpos, mul_comm (2 ^ n : ℚ)]
    split_ifs with h
    · obtain rfl : n = 0 := by omega
      simp
    · rw [neg_neg, Int.toNat_natCast]
      exact_mod_cast Iff.rfl

/-- The first guess of `floorLog2` is at most one too great. -/
theorem ratio_between_zpow (ha : 0 < a) (hd : 0 < d) :
    (2 : ℚ) ^ ((a.log2 : Int) - d.log2 - 1) ≤ (a : ℚ) / d ∧ (a : ℚ) / d < 2 ^ ((a.log2 : Int) - d.log2 + 1) := by
  have hd' : (0 : ℚ) < d := by exact_mod_cast hd
  have ale : (2 : ℚ) ^ a.log2 ≤ a := by exact_mod_cast Nat.log2_self_le ha.ne'
  have dle : (2 : ℚ) ^ d.log2 ≤ d := by exact_mod_cast Nat.log2_self_le hd.ne'
  have alt : (a : ℚ) < 2 ^ (a.log2 + 1) := by exact_mod_cast Nat.lt_log2_self
  have dlt : (d : ℚ) < 2 ^ (d.log2 + 1) := by exact_mod_cast Nat.lt_log2_self
  constructor
  · calc (2 : ℚ) ^ ((a.log2 : Int) - d.log2 - 1) = 2 ^ a.log2 / 2 ^ (d.log2 + 1) := by
          rw [sub_sub, zpow_sub₀ two_ne_zero]; norm_cast
      _ ≤ a / d := by gcongr
  · calc (a : ℚ) / d < 2 ^ (a.log2 + 1) / 2 ^ d.log2 := by gcongr
      _ = (2 : ℚ) ^ ((a.log2 : Int) - d.log2 + 1) := by
          rw [sub_add_eq_add_sub, zpow_sub₀ two_ne_zero]; norm_cast

/-- `floorLog2` answers the greatest exponent of a power of two that the ratio reaches. -/
theorem floorLog2_spec (ha : 0 < a) (hd : 0 < d) :
    (2 : ℚ) ^ floorLog2 a d ≤ (a : ℚ) / d ∧ (a : ℚ) / d < 2 ^ (floorLog2 a d + 1) := by
  obtain ⟨hlow, hhigh⟩ := ratio_between_zpow ha hd
  unfold floorLog2
  simp only [floorLog2_test_iff hd]
  split_ifs with h
  · exact ⟨h, hhigh⟩
  · rw [sub_add_cancel]
    exact ⟨hlow, not_le.mp h⟩

variable {m e : Nat}

/-- The exponent `nearestMagnitude` works with: the scale of the word, for a normal and for a subnormal number. -/
theorem max_floorLog2_eq (ha : 0 < a) (hd : 0 < d) (hratio : (a : ℚ) / d = m * 2 ^ ((e : Int) - 150))
    (he : 1 ≤ e) (hm : m < 2 ^ 24) (hnormal : 2 ^ 23 ≤ m ∨ e = 1) :
    max (floorLog2 a d) (-126) = (e : Int) - 127 := by
  obtain ⟨hlow, hhigh⟩ := floorLog2_spec ha hd
  rw [hratio] at hlow hhigh
  have hupper : floorLog2 a d < (e : Int) - 126 := by
    rw [← zpow_lt_zpow_iff_right₀ (one_lt_two (α := ℚ))]
    calc (2 : ℚ) ^ floorLog2 a d ≤ m * 2 ^ ((e : Int) - 150) := hlow
      _ < 2 ^ (24 : Int) * 2 ^ ((e : Int) - 150) := by gcongr; exact_mod_cast hm
      _ = 2 ^ ((e : Int) - 126) := by rw [← zpow_add₀ two_ne_zero]; congr 1; ring
  rcases hnormal with hm' | rfl
  · have hlower : (e : Int) - 127 < floorLog2 a d + 1 := by
      rw [← zpow_lt_zpow_iff_right₀ (one_lt_two (α := ℚ))]
      calc (2 : ℚ) ^ ((e : Int) - 127) = 2 ^ (23 : Int) * 2 ^ ((e : Int) - 150) := by
            rw [← zpow_add₀ two_ne_zero]; congr 1; ring
        _ ≤ m * 2 ^ ((e : Int) - 150) := by gcongr; exact_mod_cast hm'
        _ < 2 ^ (floorLog2 a d + 1) := hhigh
    omega
  · omega

/-- A ratio that has a significand of 24 bits is not rounded. -/
theorem nearestMagnitude_eq (hm0 : 0 < m) (hd : 0 < d) (hratio : a * 2 ^ 150 = m * 2 ^ e * d)
    (he : 1 ≤ e) (hm : m < 2 ^ 24) (hnormal : 2 ^ 23 ≤ m ∨ e = 1) :
    nearestMagnitude a d = (e - 1) * 2 ^ 23 + m := by
  have ha : 0 < a := by
    have : 0 < a * 2 ^ 150 := by rw [hratio]; positivity
    exact Nat.pos_of_mul_pos_right this
  have hquot : (a : ℚ) / d = m * 2 ^ ((e : Int) - 150) := by
    have : (a : ℚ) * 2 ^ 150 = m * 2 ^ e * d := by exact_mod_cast hratio
    rw [zpow_sub₀ two_ne_zero, ← mul_div_assoc, div_eq_div_iff (by positivity) (by positivity)]
    exact_mod_cast this
  unfold nearestMagnitude
  simp only [max_floorLog2_eq ha hd hquot he hm hnormal]
  rw [show ((e : Int) - 127 + 126).toNat = e - 1 by omega, show (23 - ((e : Int) - 127)).toNat = 150 - e by omega,
    show ((e : Int) - 127 - 23).toNat = e - 150 by omega]
  congr 1
  split_ifs with hle
  · have hpow : 2 ^ 150 = 2 ^ (150 - e) * 2 ^ e := by rw [← pow_add]; congr 1; omega
    have hexact : a * 2 ^ (150 - e) = m * d := by
      apply Nat.eq_of_mul_eq_mul_right (Nat.two_pow_pos e)
      rw [mul_assoc, ← hpow, hratio]; ring
    rw [hexact, roundHalfEven_mul_self m hd]
  · have hpow : 2 ^ e = 2 ^ (e - 150) * 2 ^ 150 := by rw [← pow_add]; congr 1; omega
    have hexact : a = m * (d * 2 ^ (e - 150)) := by
      apply Nat.eq_of_mul_eq_mul_right (Nat.two_pow_pos 150)
      rw [hratio, hpow]; ring
    rw [hexact, roundHalfEven_mul_self m (by positivity)]

end Ratio

/-! ## The fields of a binary32 word -/

/-- The significand of a word, with the leading bit that a normal word hides (R10). -/
def significand (w : Word32) : Nat :=
  if (w.extractLsb' 23 8).toNat = 0 then (w.extractLsb' 0 23).toNat else (w.extractLsb' 0 23).toNat + 2 ^ 23

/-- The exponent of a word over the least one, which subnormal words share with the first normal ones (R10). -/
def scale (w : Word32) : Nat := max (w.extractLsb' 23 8).toNat 1

/-- The numerator of a word's number over 2^150. -/
def signedNumerator (w : Word32) : Int :=
  if w.getLsbD 31 then -((significand w * 2 ^ scale w : Nat) : Int) else ((significand w * 2 ^ scale w : Nat) : Int)

theorem binary32Value_eq (w : Word32) : binary32Value w = mkRat (signedNumerator w) (2 ^ 150) := rfl

theorem natAbs_signedNumerator (w : Word32) : (signedNumerator w).natAbs = significand w * 2 ^ scale w := by
  unfold signedNumerator
  split_ifs
  · rw [Int.natAbs_neg, Int.natAbs_natCast]
  · rw [Int.natAbs_natCast]

theorem signedNumerator_neg_iff (w : Word32) (hm : 0 < significand w) :
    signedNumerator w < 0 ↔ w.getLsbD 31 = true := by
  have hpos : 0 < significand w * 2 ^ scale w := by positivity
  unfold signedNumerator
  split_ifs with hsign
  · exact iff_of_true (by omega) hsign
  · exact iff_of_false (by omega) hsign

theorem one_le_scale (w : Word32) : 1 ≤ scale w := le_max_right _ _

theorem significand_lt (w : Word32) : significand w < 2 ^ 24 := by
  unfold significand
  split_ifs <;> omega

theorem significand_normal_or_scale (w : Word32) : 2 ^ 23 ≤ significand w ∨ scale w = 1 := by
  unfold significand scale
  split_ifs with h
  · exact .inr (by rw [h]; rfl)
  · exact .inl (Nat.le_add_left _ _)

theorem exponent_toNat (w : Word32) : (w.extractLsb' 23 8).toNat = w.toNat / 2 ^ 23 % 2 ^ 8 := by
  rw [BitVec.extractLsb'_toNat, Nat.shiftRight_eq_div_pow]

theorem fraction_toNat (w : Word32) : (w.extractLsb' 0 23).toNat = w.toNat % 2 ^ 23 := by
  rw [BitVec.extractLsb'_toNat, Nat.shiftRight_zero]

/-- Exponent and fraction side by side are the word without its sign. -/
theorem scale_significand_eq (w : Word32) : (scale w - 1) * 2 ^ 23 + significand w = w.toNat % 2 ^ 31 := by
  unfold scale significand
  rw [exponent_toNat, fraction_toNat]
  split_ifs <;> omega

theorem getLsbD_31 (w : Word32) : w.getLsbD 31 = decide (2 ^ 31 ≤ w.toNat) := BitVec.msb_eq_decide w

theorem magnitude_lt_of_finite {w : Word32} (h : isNonFiniteWord w = false) : w.toNat % 2 ^ 31 < 0x7F800000 := by
  have hne : (w.extractLsb' 23 8).toNat ≠ 255 := fun heq => by
    simp [isNonFiniteWord, BitVec.eq_of_toNat_eq (show (w.extractLsb' 23 8).toNat = (255#8).toNat from heq)] at h
  rw [exponent_toNat] at hne
  omega

theorem negativeZero_toNat : negativeZero.toNat = 2 ^ 31 := by decide

/-- The words of significand 0 are the two zeros. -/
theorem eq_zero_of_significand {w : Word32} (h : significand w = 0) : w = 0 ∨ w = negativeZero := by
  have hscale : scale w = 1 := by
    rcases significand_normal_or_scale w with hn | hs
    · omega
    · exact hs
  have hmag : w.toNat % 2 ^ 31 = 0 := by
    rw [← scale_significand_eq, h, hscale, Nat.sub_self, Nat.zero_mul]
  have hlt : w.toNat < 2 ^ 32 := w.isLt
  by_cases hsign : 2 ^ 31 ≤ w.toNat
  · refine .inr (BitVec.eq_of_toNat_eq ?_)
    rw [negativeZero_toNat]
    omega
  · refine .inl (BitVec.eq_of_toNat_eq ?_)
    change w.toNat = 0
    omega

/-! ## The nearest word of the number of a word -/

/-- The numerator and denominator of a word's number are `signedNumerator` and 2^150 up to a common factor. -/
theorem exists_common_factor (w : Word32) :
    ∃ k : Nat, k ≠ 0 ∧ signedNumerator w = (binary32Value w).num * k ∧ 2 ^ 150 = (binary32Value w).den * k := by
  have hvalue := (binary32Value_eq w).symm
  generalize binary32Value w = v at hvalue
  obtain ⟨num, den, hden, hcoprime⟩ := v
  exact Rat.mkRat_num_den (Nat.two_pow_pos 150).ne' hvalue

theorem nearestMagnitude_binary32Value (w : Word32) (hm : 0 < significand w) :
    nearestMagnitude (binary32Value w).num.natAbs (binary32Value w).den = w.toNat % 2 ^ 31 := by
  obtain ⟨k, -, hnum, hden⟩ := exists_common_factor w
  have habs : significand w * 2 ^ scale w = (binary32Value w).num.natAbs * k := by
    rw [← natAbs_signedNumerator, hnum, Int.natAbs_mul, Int.natAbs_natCast]
  have hratio : (binary32Value w).num.natAbs * 2 ^ 150 = significand w * 2 ^ scale w * (binary32Value w).den := by
    rw [habs, hden]; ring
  rw [nearestMagnitude_eq hm (binary32Value w).den_pos hratio (one_le_scale w) (significand_lt w)
    (significand_normal_or_scale w), scale_significand_eq]

theorem binary32Value_num_neg_iff (w : Word32) (hm : 0 < significand w) :
    (binary32Value w).num < 0 ↔ 2 ^ 31 ≤ w.toNat := by
  obtain ⟨k, hk, hnum, -⟩ := exists_common_factor w
  have hsign := signedNumerator_neg_iff w hm
  rw [getLsbD_31, decide_eq_true_iff] at hsign
  rw [← hsign, hnum]
  have hkpos : (0 : Int) < k := by omega
  exact ⟨fun h => mul_neg_of_neg_of_pos h hkpos, fun h => neg_of_mul_neg_left h hkpos.le⟩

theorem binary32Value_eq_zero_iff (w : Word32) : binary32Value w = 0 ↔ significand w = 0 := by
  rw [binary32Value_eq, Rat.mkRat_eq_zero (by positivity), ← Int.natAbs_eq_zero, natAbs_signedNumerator]
  simp

/-- R10's format loses nothing: a finite word that is no zero is the nearest word of its number. -/
theorem nearestWord?_binary32Value {w : Word32} (hfinite : isNonFiniteWord w = false) (hm : 0 < significand w) :
    nearestWord? (binary32Value w) = some w := by
  have hpos : w.toNat % 2 ^ 31 ≠ 0 := by
    rw [← scale_significand_eq]; omega
  have hlt := magnitude_lt_of_finite hfinite
  unfold nearestWord?
  rw [if_neg (mt (binary32Value_eq_zero_iff w).1 hm.ne')]
  simp only [nearestMagnitude_binary32Value w hm, binary32Value_num_neg_iff w hm]
  rw [if_neg (by omega), if_neg hpos]
  congr 1
  apply BitVec.eq_of_toNat_eq
  rw [BitVec.toNat_ofNat]
  split_ifs <;> omega

theorem nearestWord?_binary32Value_zero : nearestWord? (binary32Value 0) = some 0 := by
  rw [nearestWord?, if_pos ((binary32Value_eq_zero_iff 0).2 rfl)]

theorem computedNumerics_toBits_of_nearestWord? {b : Option Nat} {q : Rat} {w : Word32}
    (h : nearestWord? q = some w) : (computedNumerics b).toBits q = w := by
  simp [computedNumerics, h]

theorem ofBits?_computedNumerics {b : Option Nat} {w : Word32} {v : F}
    (h : ofBits? (computedNumerics b) w = some v) :
    isNonFiniteWord w = false ∧ v = binary32Value (if w = negativeZero then 0 else w) := by
  unfold ofBits? at h
  by_cases hfinite : isNonFiniteWord w = true
  · rw [if_pos hfinite] at h; cases h
  rw [if_neg hfinite] at h
  exact ⟨by simpa using hfinite, (Option.some.inj h).symm⟩

/-- Settles O49: a zero word is answered with the word 0, and any other finite word is the nearest of its number. -/
theorem computedNumericsRoundTrip : Obligations.ComputedNumericsRoundTrip := by
  intro b w v h
  obtain ⟨hfinite, rfl⟩ := ofBits?_computedNumerics h
  apply computedNumerics_toBits_of_nearestWord?
  by_cases hneg : w = negativeZero
  · rw [if_pos hneg, nearestWord?_binary32Value_zero]
  · rw [if_neg hneg]
    rcases Nat.eq_zero_or_pos (significand w) with hm | hm
    · obtain rfl := (eq_zero_of_significand hm).resolve_right hneg
      exact nearestWord?_binary32Value_zero
    · exact nearestWord?_binary32Value hfinite hm

end Sys2Proof.Proofs


/-! What a step can do, said once: the effect of a command on the state it finds (R193 and the commands' own rules), and
the four things a step can find at its port. -/

namespace Sys2Proof.Proofs

open Sys2Proof Sys2Proof.Machine

/-! ## A decoded word is the word of its command (R70) -/

section Words

variable {w cw : Word64} {i : Instr}

theorem append_fields (w : Word64) : opField w ++ idxField w ++ dataField w = w := by
  apply BitVec.eq_of_getLsbD_eq
  intro k hk
  simp only [opField, idxField, dataField, BitVec.getLsbD_append, BitVec.getLsbD_extractLsb']
  split_ifs with hdata hidx
  · simp [hdata]
  · simp [show k - 32 < 24 by omega, show 32 + (k - 32) = k by omega]
  · simp [show k - 32 - 24 < 8 by omega, show 56 + (k - 32 - 24) = k by omega]

theorem encode_eq_of_fields (hop : opField w = i.opcode) (hidx : i.idx = idxField w) (hdata : i.data = dataField w) :
    encode i = w := by
  rw [encode, ← hop, hidx, hdata, append_fields]

theorem encode_of_decode (h : decode w = .ok i) : encode i = w := by
  unfold decode at h
  split at h
  case h_18 => cases h
  all_goals
    rename_i hop
    cases h
    exact encode_eq_of_fields (BitVec.eq_of_toNat_eq hop) rfl rfl

end Words

/-! ## Well-formed commands -/

section WellFormed

variable {i : Instr}

theorem idx_eq_zero (h : i.wellFormed = true) (hunused : i.usesIdx = false) : i.idx = 0 := by
  rw [Instr.wellFormed, hunused, Bool.false_or, Bool.and_eq_true, beq_iff_eq] at h
  obtain ⟨hidx, _⟩ := h
  exact hidx

theorem fields_eq_zero (h : i.wellFormed = true) (hidx : i.usesIdx = false) (hdata : i.usesData = false) :
    i.idx = 0 ∧ i.data = 0 := by
  simpa [Instr.wellFormed, hidx, hdata] using h

end WellFormed

/-! ## The effect of a command -/

/-- What a command can make of the state `s` it finds. Every command may answer or fault; each other constructor is the
effect of one command, in the mode where R148 lets it run. -/
inductive Effect (s : State) : Instr → State → Prop where
  /-- one response and nothing else: a read, NOP, or a refusal -/
  | answers (i : Instr) (st : Status) (d : Word32) : Effect s i (respond (encode i) st d s)
  | faults (i : Instr) (c : Word32) (hmode : s.mode ≠ .fault) (hcode : isFaultCode c = true) :
      Effect s i (takeFault (encode i) c s)
  | resets : Effect s (.reset 0 0) (respond (encode (.reset 0 0)) .ok 0 (applyReset s))
  | configures (idx : Index) (d : Word32) (r : Reg) (c : Cfg) (hmode : s.mode = .idle)
      (hreg : regOfNumber? idx = some r) (hwrite : s.cfg.write s.num r d = some c) :
      Effect s (.wrcfg idx d) (respond (encode (.wrcfg idx d)) .ok d (setCfg c s))
  | refusesStart (hmode : s.mode = .idle) (hillegal : validate s.params s.cfg ≠ 0) :
      Effect s (.start 0 0) (respond (encode (.start 0 0)) .cfgInvalid (validate s.params s.cfg)
        (setErrCode (validate s.params s.cfg) s))
  | starts (hmode : s.mode = .idle) (hlegal : validate s.params s.cfg = 0) :
      Effect s (.start 0 0) (respond (encode (.start 0 0)) .ok 0 (started s))
  | pauses (hmode : s.mode = .running) :
      Effect s (.pause 0 0) (respond (encode (.pause 0 0)) .ok 2 (setMode .paused s))
  | resumes (hmode : s.mode = .paused) :
      Effect s (.resume 0 0) (respond (encode (.resume 0 0)) .ok 1 (setMode .running s))
  | quits (hmode : s.mode = .running ∨ s.mode = .paused) :
      Effect s (.quit 0 0) (respond (encode (.quit 0 0)) .ok 3 (setMode .stopped s))
  | pushes (d : Word32) (v : F) (hmode : s.mode = .running) (hvalue : ofBits? s.num d = some v) :
      Effect s (.push 0 d) (respond (encode (.push 0 d)) .ok (storeSample v s).winLen (storeSample v s))
  | frames (hmode : s.mode = .running) (hfull : s.win.length = s.cfg.cap)
      (hfinite : allFinite s.num (analyse s) = true) :
      Effect s (.frame 0 0) (respond (encode (.frame 0 0)) .ok (s.frameCnt + 1) (storeFrame (analyse s) s))

section Effects

variable {s t : State} {i : Instr} {body : State → State}

theorem effect_gate (hbody : s.mode ≠ .fault → i.wellFormed = true → Effect s i (body s)) :
    Effect s i (gate i s body) := by
  rcases gate_cases i s body with ⟨_, h⟩ | ⟨hmode, _, h⟩ | ⟨hmode, hwf, h⟩ <;> rw [h]
  · exact .answers ..
  · exact .faults _ _ hmode rfl
  · exact hbody hmode hwf

theorem effect_gateInFault (hbody : i.wellFormed = true → Effect s i (body s)) :
    Effect s i (gateInFault i s body) := by
  rcases gateInFault_cases i s body with ⟨hwf, h⟩ | ⟨_, _, h⟩ | ⟨_, hmode, h⟩ <;> rw [h]
  · exact hbody hwf
  · exact .answers ..
  · exact .faults _ _ hmode rfl

theorem effect_readArray (i : Instr) (len : Word32) (needsFrame : Bool) (value : Word32) (s : State) :
    Effect s i (readArray i len needsFrame value s) := by
  rcases readArray_cases i len needsFrame value s with ⟨_, _, h⟩ | ⟨hmode, _, h⟩ <;> rw [h]
  · exact .answers ..
  · exact .faults _ _ hmode rfl

/-- Everything WRCFG can do (R150): it has no unused field, so it takes no fault, and it is refused or writes. -/
theorem exec_wrcfg_cases {idx : Index} {d : Word32} (h : exec (.wrcfg idx d) s = .next t) :
    (∃ st x, st ≠ .ok ∧ t = respond (encode (.wrcfg idx d)) st x s) ∨
    (∃ r c, s.mode = .idle ∧ regOfNumber? idx = some r ∧ s.cfg.write s.num r d = some c ∧
      t = respond (encode (.wrcfg idx d)) .ok d (setCfg c s)) := by
  cases h
  rcases gate_cases (.wrcfg idx d) s _ with ⟨_, h⟩ | ⟨_, hwf, _⟩ | ⟨_, _, h⟩
  · exact .inl ⟨_, _, by decide, h⟩
  · cases hwf
  · rw [h]
    split_ifs with hmode
    · exact .inl ⟨_, _, by decide, rfl⟩
    split
    · exact .inl ⟨_, _, by decide, rfl⟩
    split_ifs
    · exact .inl ⟨_, _, by decide, rfl⟩
    split
    · exact .inl ⟨_, _, by decide, rfl⟩
    · exact .inr ⟨_, _, not_not.1 hmode, by assumption, by assumption, rfl⟩

/-- Everything a command can do. -/
theorem effect_of_exec (h : exec i s = .next t) : Effect s i t := by
  cases i with
  | nop => cases h; exact effect_gate fun _ _ => .answers ..
  | reset idx data =>
    cases h
    refine effect_gateInFault fun hwf => ?_
    obtain ⟨rfl, rfl⟩ : idx = 0 ∧ data = 0 := fields_eq_zero hwf rfl rfl
    exact .resets
  | wrcfg =>
    rcases exec_wrcfg_cases h with ⟨_, _, _, rfl⟩ | ⟨r, c, hmode, hreg, hwrite, rfl⟩
    · exact .answers ..
    · exact .configures _ _ r c hmode hreg hwrite
  | rdreg =>
    cases h
    refine effect_gateInFault fun _ => ?_
    split <;> exact .answers ..
  | start idx data =>
    cases h
    refine effect_gate fun _ hwf => ?_
    obtain ⟨rfl, rfl⟩ : idx = 0 ∧ data = 0 := fields_eq_zero hwf rfl rfl
    split_ifs with hmode hlegal
    · exact .answers ..
    · exact .refusesStart (not_not.1 hmode) hlegal
    · exact .starts (not_not.1 hmode) (not_not.1 hlegal)
  | pause idx data =>
    cases h
    refine effect_gate fun _ hwf => ?_
    obtain ⟨rfl, rfl⟩ : idx = 0 ∧ data = 0 := fields_eq_zero hwf rfl rfl
    split_ifs with hmode
    · exact .pauses hmode
    · exact .answers ..
  | resume idx data =>
    cases h
    refine effect_gate fun _ hwf => ?_
    obtain ⟨rfl, rfl⟩ : idx = 0 ∧ data = 0 := fields_eq_zero hwf rfl rfl
    split_ifs with hmode
    · exact .resumes hmode
    · exact .answers ..
  | quit idx data =>
    cases h
    refine effect_gate fun _ hwf => ?_
    obtain ⟨rfl, rfl⟩ : idx = 0 ∧ data = 0 := fields_eq_zero hwf rfl rfl
    split_ifs with hmode
    · exact .quits hmode
    · exact .answers ..
  | push idx data =>
    cases h
    refine effect_gate fun hnofault hwf => ?_
    obtain rfl : idx = 0 := idx_eq_zero hwf rfl
    split
    case h_1 | h_2 | h_3 => exact .answers ..
    case h_4 hmode =>
      split
      · exact .faults _ _ hnofault rfl
      · exact .pushes _ _ hmode (by assumption)
    case h_5 hmode => exact absurd hmode hnofault
  | frame idx data =>
    cases h
    refine effect_gate fun hnofault hwf => ?_
    obtain ⟨rfl, rfl⟩ : idx = 0 ∧ data = 0 := fields_eq_zero hwf rfl rfl
    split
    case h_1 | h_2 | h_3 => exact .answers ..
    case h_4 hmode =>
      split_ifs with hfull hfinite
      · exact .answers ..
      · exact .frames hmode (not_not.1 hfull) hfinite
      · exact .faults _ _ hnofault rfl
    case h_5 hmode => exact absurd hmode hnofault
  | rdsm | rddb | rdmag | rdblo | rdbhi | rdflo | rdfhi => cases h; exact effect_readArray ..

/-! ## What a step finds at its port (R55, R170) -/

theorem fetch?_some {e : PortEvent} (h : fetch? s = some (e, t)) :
    ∃ rest, s.commandPort = e :: rest ∧ t = { s with commandPort := rest } := by
  unfold fetch? at h
  split at h
  · cases h
  · next hport => cases h; exact ⟨_, hport, rfl⟩

theorem commandPort_of_fetch?_none (h : fetch? s = none) : s.commandPort = [] := by
  cases hport : s.commandPort with
  | nil => rfl
  | cons e rest => rw [fetch?_command s e rest hport] at h; cases h

/-- Everything a step can do: nothing, a hardware reset, a command, or a word with a reserved opcode. -/
theorem step_cases (h : step s = .next t) :
    (s.commandPort = [] ∧ t = s) ∨
    (∃ rest, s.commandPort = .hardwareReset :: rest ∧ t = applyReset { s with commandPort := rest }) ∨
    (∃ i rest, s.commandPort = .command (encode i) :: rest ∧ Effect { s with commandPort := rest } i t) ∨
    (∃ cw rest, s.commandPort = .command cw :: rest ∧ t = illegalOpcode cw { s with commandPort := rest }) := by
  unfold step at h
  split at h
  case h_1 hfetch => cases h; exact .inl ⟨commandPort_of_fetch?_none hfetch, rfl⟩
  case h_2 hfetch =>
    cases h
    obtain ⟨rest, hport, rfl⟩ := fetch?_some hfetch
    exact .inr (.inl ⟨rest, hport, rfl⟩)
  case h_3 cw _ hfetch =>
    obtain ⟨rest, hport, rfl⟩ := fetch?_some hfetch
    split at h
    · next i hdecode =>
      rw [← encode_of_decode hdecode] at hport
      exact .inr (.inr (.inl ⟨i, rest, hport, effect_of_exec h⟩))
    · cases h; exact .inr (.inr (.inr ⟨cw, rest, hport, rfl⟩))

/-- What neither the ports nor a fault entry are part of changes only at a hardware reset or by a command. -/
theorem step_changes {α : Type} (f : State → α) (hport : ∀ s rest, f { s with commandPort := rest } = f s)
    (hrespond : ∀ cw st d s, f (respond cw st d s) = f s) (hfault : ∀ cw c s, f (takeFault cw c s) = f s)
    (h : step s = .next t) (hne : f t ≠ f s) :
    (∃ rest, s.commandPort = .hardwareReset :: rest) ∨
    (∃ i rest, s.commandPort = .command (encode i) :: rest ∧ Effect { s with commandPort := rest } i t) := by
  rcases step_cases h with ⟨_, rfl⟩ | ⟨rest, hreset, _⟩ | hcommand | ⟨cw, rest, _, rfl⟩
  · exact absurd rfl hne
  · exact .inl ⟨rest, hreset⟩
  · exact .inr hcommand
  · refine absurd ?_ hne
    rcases illegalOpcode_cases cw { s with commandPort := rest } with ⟨_, hill⟩ | ⟨_, hill⟩ <;> rw [hill]
    · rw [hrespond, hport]
    · rw [hfault, hport]

end Effects

end Sys2Proof.Proofs


/-! The invariant of the engine (R48 with R6, R32, R35, R36, R191): it holds after reset, each effect of a command keeps
it, and so it holds of every state a run from reset meets. -/

namespace Sys2Proof.Proofs

open Sys2Proof Sys2Proof.Machine

/-! ## What an accepted or refused START knows (R143) -/

section Validation

variable {p : Params} {c : Cfg}

theorem isRefusalCode_validate (p : Params) (c : Cfg) : isRefusalCode (validate p c) = true := by
  simp only [validate]
  split_ifs <;> rfl

theorem pos_of_fftSizeLegal {maxFft : Nat} {x : Word32} (h : fftSizeLegal maxFft x = true) : 0 < x.toNat := by
  simp only [fftSizeLegal, Bool.and_eq_true, decide_eq_true_eq] at h
  obtain ⟨⟨_, htwo⟩, _⟩ := h
  omega

/-- The checks of R143 that the invariant rests on: there are bins, and a sample group is not empty. -/
theorem pos_of_validate (h : validate p c = 0) : 0 < c.fftSize.toNat ∧ 0 < c.channels.toNat := by
  simp only [validate] at h
  split_ifs at h with hfft _ _ hch
  case neg =>
    refine ⟨pos_of_fftSizeLegal (by simpa using hfft), Nat.pos_of_ne_zero fun hzero => hch (.inl ?_)⟩
    exact BitVec.eq_of_toNat_eq hzero
  all_goals cases h

end Validation

/-! ## What WRCFG leaves of CFGFLAGS (R32) -/

theorem write_cfgFlags {c c' : Cfg} {num : Numerics F} {r : Reg} {d : Word32} (h : c.write num r d = some c')
    (hflags : c.cfgFlags.extractLsb' 1 31 = 0) : c'.cfgFlags.extractLsb' 1 31 = 0 := by
  cases r with
  | fftSize | numBands | sampleRate | channels => cases h; exact hflags
  | minDb | alpha | fLo | fHi =>
    obtain ⟨_, _, rfl⟩ := Option.map_eq_some_iff.1 h
    exact hflags
  | cfgFlags =>
    simp only [Cfg.write] at h
    split_ifs at h with hd
    cases h
    exact hd
  | mode | status | errCode | errCmdHi | errCmdLo | winLen | pushCnt | frameCnt => cases h

section Invariant

variable {s t : State} {i : Instr}

/-! ## Reset and the ports -/

/-- R49: nothing is built, counted or recorded after reset. -/
theorem engineInv_resetOf {p : Params} (hlegal : p.Legal) : EngineInv (State.resetOf p) where
  params := hlegal
  cfgFlags := show (1 : Word32).extractLsb' 1 31 = 0 by decide
  window := Nat.zero_le _
  idle _ := ⟨rfl, rfl, rfl, rfl, rfl, rfl, rfl, rfl, rfl⟩
  constructed h := by rcases h with h | h | h <;> cases h
  results := ⟨rfl, rfl⟩
  counted h := absurd rfl h
  faultCode h := by cases h
  idleCode _ := rfl
  runCode _ := rfl
  errCmd _ := ⟨rfl, rfl⟩

/-- The ports stand outside the engine. -/
theorem engineInv_withPorts (h : EngineInv s) (commands : List PortEvent) (responses : List Word64) :
    EngineInv { s with commandPort := commands, responsePort := responses } where
  params := h.params
  cfgFlags := h.cfgFlags
  window := h.window
  idle hmode := { h.idle hmode with }
  constructed hmode := { h.constructed hmode with }
  results := h.results
  counted := h.counted
  faultCode := h.faultCode
  idleCode := h.idleCode
  runCode := h.runCode
  errCmd := h.errCmd

theorem engineInv_commandPort (h : EngineInv s) (rest : List PortEvent) : EngineInv { s with commandPort := rest } :=
  engineInv_withPorts h rest s.responsePort

theorem engineInv_respond (h : EngineInv s) (cw : Word64) (st : Status) (d : Word32) :
    EngineInv (respond cw st d s) :=
  engineInv_withPorts h s.commandPort _

theorem engineInv_applyReset (h : EngineInv s) : EngineInv (applyReset s) :=
  engineInv_withPorts (engineInv_resetOf h.params) _ _

/-! ## Faults (R191, R194) -/

/-- The arrays and the configuration stay as the fault finds them; the code and the saved word are the fault's. -/
theorem engineInv_takeFault (h : EngineInv s) (cw : Word64) {c : Word32} (hcode : isFaultCode c = true) :
    EngineInv (takeFault cw c s) where
  params := h.params
  cfgFlags := h.cfgFlags
  window := h.window
  idle hmode := by cases hmode
  constructed hmode := by rcases hmode with hmode | hmode | hmode <;> cases hmode
  results := h.results
  counted := h.counted
  faultCode _ := hcode
  idleCode hmode := by cases hmode
  runCode hmode := by rcases hmode with hmode | hmode | hmode <;> cases hmode
  errCmd hmode := absurd rfl hmode

theorem engineInv_illegalOpcode (h : EngineInv s) (cw : Word64) : EngineInv (illegalOpcode cw s) := by
  rcases illegalOpcode_cases cw s with ⟨_, hill⟩ | ⟨_, hill⟩ <;> rw [hill]
  · exact engineInv_respond h ..
  · exact engineInv_takeFault h cw rfl

/-! ## The commands of IDLE -/

/-- The window is empty in IDLE, so it fits any capacity, and no result depends on the lengths written (R40, R49). -/
theorem engineInv_setCfg (h : EngineInv s) (hmode : s.mode = .idle) {c : Cfg}
    (hflags : c.cfgFlags.extractLsb' 1 31 = 0) : EngineInv (setCfg c s) where
  params := h.params
  cfgFlags := hflags
  window := by simp [(h.idle hmode).win]
  idle _ := { h.idle hmode with }
  constructed hm := by simp [hmode] at hm
  results := by simpa [(h.idle hmode).resValid] using h.results
  counted := h.counted
  faultCode := h.faultCode
  idleCode := h.idleCode
  runCode := h.runCode
  errCmd := h.errCmd

theorem engineInv_setErrCode (h : EngineInv s) (hmode : s.mode = .idle) {e : Word32}
    (hcode : isRefusalCode e = true) : EngineInv (setErrCode e s) where
  params := h.params
  cfgFlags := h.cfgFlags
  window := h.window
  idle _ := { h.idle hmode with }
  constructed hm := by simp [hmode] at hm
  results := h.results
  counted := h.counted
  faultCode hm := by simp [hmode] at hm
  idleCode _ := hcode
  runCode hm := by simp [hmode] at hm
  errCmd := h.errCmd

/-- R144: START builds arrays of the lengths and bin ranges the configuration gives. -/
theorem constructed_started (hlegal : validate s.params s.cfg = 0) : Constructed (started s) where
  legal := hlegal
  sm := by simp
  lowBin := by simp
  highBin := by simp
  bfLo := by simp
  bfHi := by simp
  lowBinRange b hb := by
    obtain ⟨f, _, rfl⟩ := List.mem_map.1 hb
    exact clampBin_lt _ _ (pos_of_validate hlegal).1
  highBinRange b hb := by
    obtain ⟨f, _, rfl⟩ := List.mem_map.1 hb
    exact clampBin_lt _ _ (pos_of_validate hlegal).1

theorem engineInv_started (h : EngineInv s) (hmode : s.mode = .idle) (hlegal : validate s.params s.cfg = 0) :
    EngineInv (started s) where
  params := h.params
  cfgFlags := h.cfgFlags
  window := Nat.zero_le _
  idle hm := by cases hm
  constructed _ := constructed_started hlegal
  results := ⟨rfl, rfl⟩
  counted hne := absurd rfl hne
  faultCode hm := by cases hm
  idleCode hm := by cases hm
  runCode _ := rfl
  errCmd _ := h.errCmd (by simp [hmode])

/-! ## The commands of RUNNING and PAUSED -/

/-- R149: PAUSE, RESUME and QUIT move between the modes in which the pipeline stands. -/
theorem engineInv_setMode (h : EngineInv s) {m : Mode} (hmode : s.mode = .running ∨ s.mode = .paused)
    (hm : m = .running ∨ m = .paused ∨ m = .stopped) : EngineInv (setMode m s) := by
  have hstands : s.mode = .running ∨ s.mode = .paused ∨ s.mode = .stopped := hmode.imp_right .inl
  exact
    { params := h.params
      cfgFlags := h.cfgFlags
      window := h.window
      idle := fun hidle => by simp [show m = .idle from hidle] at hm
      constructed := fun _ => { h.constructed hstands with }
      results := h.results
      counted := h.counted
      faultCode := fun hfault => by simp [show m = .fault from hfault] at hm
      idleCode := fun hidle => by simp [show m = .idle from hidle] at hm
      runCode := fun _ => h.runCode hstands
      errCmd := fun _ => h.errCmd (by rcases hmode with hmode | hmode <;> simp [hmode]) }

/-- R103 (a): a push evicts a group before the window outgrows its capacity. -/
theorem engineInv_storeSample (h : EngineInv s) (hmode : s.mode = .running) (v : F) : EngineInv (storeSample v s) where
  params := h.params
  cfgFlags := h.cfgFlags
  window := pushWindow_length_le _ _ _ _ (pos_of_validate (h.constructed (.inl hmode)).legal).2 h.window
  idle hm := by simp [hmode] at hm
  constructed hm := { h.constructed hm with }
  results := h.results
  counted := h.counted
  faultCode := h.faultCode
  idleCode := h.idleCode
  runCode := h.runCode
  errCmd := h.errCmd

/-- The tentative results of a FRAME have the lengths the configuration gives (R48 e, f). -/
theorem analyse_lengths (h : Constructed s) :
    (analyse s).mag.length = s.cfg.fftSize.toNat ∧ (analyse s).db.length = s.cfg.numBands.toNat ∧
      (analyse s).sm.length = s.cfg.numBands.toNat := by
  simp [analyse, h.lowBin, h.highBin, h.sm]

theorem engineInv_storeFrame (h : EngineInv s) (hmode : s.mode = .running) :
    EngineInv (storeFrame (analyse s) s) := by
  have hbuilt := h.constructed (.inl hmode)
  obtain ⟨hmag, hdb, hsm⟩ := analyse_lengths hbuilt
  exact
    { params := h.params
      cfgFlags := h.cfgFlags
      window := h.window
      idle := fun hm => by simp [hmode] at hm
      constructed := fun _ => { hbuilt with sm := hsm }
      results := ⟨hdb, hmag⟩
      counted := fun _ => rfl
      faultCode := h.faultCode
      idleCode := h.idleCode
      runCode := h.runCode
      errCmd := h.errCmd }

/-! ## Every effect, every step, every run -/

theorem engineInv_of_effect (heffect : Effect s i t) (h : EngineInv s) : EngineInv t := by
  cases heffect with
  | answers => exact engineInv_respond h ..
  | faults _ _ _ hcode => exact engineInv_takeFault h _ hcode
  | resets => exact engineInv_respond (engineInv_applyReset h) ..
  | configures _ _ _ _ hmode _ hwrite =>
    exact engineInv_respond (engineInv_setCfg h hmode (write_cfgFlags hwrite h.cfgFlags)) ..
  | refusesStart hmode => exact engineInv_respond (engineInv_setErrCode h hmode (isRefusalCode_validate _ _)) ..
  | starts hmode hlegal => exact engineInv_respond (engineInv_started h hmode hlegal) ..
  | pauses hmode => exact engineInv_respond (engineInv_setMode h (.inl hmode) (.inr (.inl rfl))) ..
  | resumes hmode => exact engineInv_respond (engineInv_setMode h (.inr hmode) (.inl rfl)) ..
  | quits hmode => exact engineInv_respond (engineInv_setMode h hmode (.inr (.inr rfl))) ..
  | pushes _ v hmode => exact engineInv_respond (engineInv_storeSample h hmode v) ..
  | frames hmode => exact engineInv_respond (engineInv_storeFrame h hmode) ..

theorem engineInv_of_step (h : EngineInv s) (hstep : step s = .next t) : EngineInv t := by
  rcases step_cases hstep with ⟨_, rfl⟩ | ⟨rest, _, rfl⟩ | ⟨i, rest, _, heffect⟩ | ⟨cw, rest, _, rfl⟩
  · exact h
  · exact engineInv_applyReset (engineInv_commandPort h rest)
  · exact engineInv_of_effect heffect (engineInv_commandPort h rest)
  · exact engineInv_illegalOpcode (engineInv_commandPort h rest) cw

/-- What every step keeps holds at the end of every run of a machine. -/
theorem run_keeps {M : Host.Core} {P : M.State → Prop} (hkeeps : ∀ s t, P s → M.step s = .next t → P t) :
    ∀ (n : Nat) (s t : M.State), P s → M.run n s = .next t → P t
  | 0, _, _, hs, hrun => by cases hrun; exact hs
  | n + 1, s, t, hs, hrun => by
    rw [Host.Core.run] at hrun
    split at hrun
    · next u hstep => exact run_keeps hkeeps n u t (hkeeps s u hs hstep) hrun
    · cases hrun
    · cases hrun

end Invariant

/-- Settles O46, by the invariant of each effect a step can have. -/
theorem stepKeepsInvariant : Obligations.StepKeepsInvariant := fun _ _ => engineInv_of_step

/-- Settles O47: the reset state of any legal parameters meets the invariant, and the suggested limits are legal. -/
theorem resetMeetsInvariant : Obligations.ResetMeetsInvariant := engineInv_resetOf (by decide)

/-- Settles O48, by O46 along the run: what was sent before reset stands outside the engine. -/
theorem invariantHoldsOnEveryRun : Obligations.InvariantHoldsOnEveryRun := by
  intro p es n t hlegal hrun
  exact run_keeps (M := core) stepKeepsInvariant n _ t (engineInv_commandPort (engineInv_resetOf hlegal) es) hrun

end Sys2Proof.Proofs


/-! The registers and arrays of the engine: their values after reset (R49), the STATUS bits (R34), what writes them
(R23, R40 to R45), and the configuration registers read back (R23, R150, R151). -/

namespace Sys2Proof.Proofs

open Sys2Proof Sys2Proof.Machine

/-! ## What writes the configuration and the arrays -/

/-- Settles O44: of the effects a command can have, only those of WRCFG and RESET touch the configuration. -/
theorem configurationLockedOutsideIdle : Obligations.ConfigurationLockedOutsideIdle := by
  intro s t hstep hne
  rcases step_changes State.cfg (fun _ _ => rfl) (fun _ _ _ _ => rfl) (fun _ _ _ => rfl) hstep hne with
    hreset | ⟨i, rest, hport, heffect⟩
  · exact .inr (.inl hreset)
  cases heffect with
  | configures idx d _ _ hmode => exact .inl ⟨hmode, idx, d, rest, hport⟩
  | resets => exact .inr (.inr ⟨rest, hport⟩)
  | _ => exact absurd rfl hne

section Writers

variable {s t : State}

/-- R40: the window is written by PUSH and START. -/
theorem win_writers (hstep : step s = .next t) (hreset : ¬ resetComes s) (hne : t.win ≠ s.win) :
    (s.mode = .running ∧ ∃ d, commandComes s (.push 0 d)) ∨ (s.mode = .idle ∧ commandComes s (.start 0 0)) := by
  rcases step_changes State.win (fun _ _ => rfl) (fun _ _ _ _ => rfl) (fun _ _ _ => rfl) hstep hne with
    hhard | ⟨i, rest, hport, heffect⟩
  · exact absurd (.inl hhard) hreset
  cases heffect with
  | pushes d _ hmode => exact .inl ⟨hmode, d, rest, hport⟩
  | starts hmode => exact .inr ⟨hmode, rest, hport⟩
  | resets => exact absurd (.inr ⟨rest, hport⟩) hreset
  | _ => exact absurd rfl hne

/-- What a FRAME computes (R41, R42, R43). -/
def frameArrays (s : State) : List F × List F × List F := (s.sm, s.rawDb, s.mag)

/-- R41, R42, R43: SM, RAWDB and MAG are written by FRAME and START. -/
theorem frameArrays_writers (hstep : step s = .next t) (hreset : ¬ resetComes s)
    (hne : frameArrays t ≠ frameArrays s) :
    (s.mode = .running ∧ commandComes s (.frame 0 0)) ∨ (s.mode = .idle ∧ commandComes s (.start 0 0)) := by
  rcases step_changes frameArrays (fun _ _ => rfl) (fun _ _ _ _ => rfl) (fun _ _ _ => rfl) hstep hne with
    hhard | ⟨i, rest, hport, heffect⟩
  · exact absurd (.inl hhard) hreset
  cases heffect with
  | frames hmode => exact .inl ⟨hmode, rest, hport⟩
  | starts hmode => exact .inr ⟨hmode, rest, hport⟩
  | resets => exact absurd (.inr ⟨rest, hport⟩) hreset
  | _ => exact absurd rfl hne

/-- The band table (R44, R45). -/
def bandTable (s : State) : List Nat × List Nat × List F × List F := (s.lowBin, s.highBin, s.bfLo, s.bfHi)

/-- R44, R45: the band table is written by START alone. -/
theorem bandTable_writers (hstep : step s = .next t) (hreset : ¬ resetComes s) (hne : bandTable t ≠ bandTable s) :
    s.mode = .idle ∧ commandComes s (.start 0 0) := by
  rcases step_changes bandTable (fun _ _ => rfl) (fun _ _ _ _ => rfl) (fun _ _ _ => rfl) hstep hne with
    hhard | ⟨i, rest, hport, heffect⟩
  · exact absurd (.inl hhard) hreset
  cases heffect with
  | starts hmode => exact ⟨hmode, rest, hport⟩
  | resets => exact absurd (.inr ⟨rest, hport⟩) hreset
  | _ => exact absurd rfl hne

end Writers

/-- Settles O45, by the writers of the window, of the arrays of a frame, and of the band table. -/
theorem arraysHaveTheirWriters : Obligations.ArraysHaveTheirWriters := by
  intro s t hstep hreset
  refine ⟨win_writers hstep hreset, fun hne => frameArrays_writers hstep hreset ?_,
    fun hne => bandTable_writers hstep hreset ?_⟩
  · simpa [frameArrays, or_iff_not_imp_left] using hne
  · simpa [bandTable, or_iff_not_imp_left] using hne

/-! ## STATUS (R34) -/

/-- The bits of STATUS, each by its number. -/
theorem status_getLsbD (s : State) (k : Nat) :
    s.status.getLsbD k = (decide (k = 0) && s.winFull || decide (k = 1) && s.resValid) := by
  rw [State.status, BitVec.getLsbD_append, BitVec.getLsbD_append]
  match k with
  | 0 | 1 | _ + 2 => simp

theorem winFull_iff (s : State) : s.winFull = true ↔ s.mode ≠ .idle ∧
    s.win.length = s.cfg.fftSize.toNat * s.cfg.channels.toNat := by
  simp [State.winFull, Cfg.cap]

/-- Settles O39, bit by bit. -/
theorem statusBits : Obligations.StatusBits := by
  intro s
  refine ⟨?_, ?_, fun k hk => ?_⟩
  · rw [status_getLsbD]
    simpa using winFull_iff s
  · rw [status_getLsbD]
    simp
  · rw [status_getLsbD, decide_eq_false (by omega : k ≠ 0), decide_eq_false (by omega : k ≠ 1)]
    rfl

/-! ## Reset values (R49) -/

/-- The seven reads of an array are one operation, on an array of their own. -/
theorem exec_arrayRead {idx : Index} {i : Instr} (s : State)
    (hi : i ∈ [Instr.rdsm idx 0, .rddb idx 0, .rdmag idx 0, .rdblo idx 0, .rdbhi idx 0, .rdflo idx 0, .rdfhi idx 0]) :
    i.wellFormed = true ∧ ∃ len needsFrame value, exec i s = .next (readArray i len needsFrame value s) := by
  simp only [List.mem_cons, List.not_mem_nil, or_false] at hi
  rcases hi with rfl | rfl | rfl | rfl | rfl | rfl | rfl <;> exact ⟨rfl, _, _, _, rfl⟩

theorem readArray_of_idle {i : Instr} {s : State} (len : Word32) (needsFrame : Bool) (value : Word32)
    (hmode : s.mode = .idle) (hwf : i.wellFormed = true) :
    readArray i len needsFrame value s = respond (encode i) .badMode 0 s := by
  rw [readArray, gate_of_wellFormed i s _ (by simp [hmode]) hwf, if_pos hmode, answerBadMode, hmode]
  rfl

theorem status_resetOf (p : Params) : (State.resetOf p).status = 0 := by
  simp [State.status, State.winFull, State.resetOf]

/-- Settles O14: the registers by R49's table, and every array read is refused in IDLE. -/
theorem resetValues : Obligations.ResetValues := by
  intro p
  refine ⟨rfl, rfl, rfl, rfl, rfl, rfl, rfl, rfl, rfl, rfl, status_resetOf p, rfl, rfl, rfl, rfl, rfl, rfl, rfl, ?_⟩
  intro idx i hi
  obtain ⟨hwf, len, needsFrame, value, hexec⟩ := exec_arrayRead (State.resetOf p) hi
  rw [hexec, readArray_of_idle len needsFrame value rfl hwf]
  rfl

/-! ## The configuration registers read back (R23) -/

section ReadBack

variable {s t : State} {idx : Index} {d : Word32} {r : Reg}

theorem number_of_regOfNumber? (h : regOfNumber? idx = some r) : idx = r.number := by
  unfold regOfNumber? at h
  split at h
  case h_18 => cases h
  all_goals
    rename_i hidx
    cases h
    exact BitVec.eq_of_toNat_eq hidx

theorem opField_responseWord (cw : Word64) (st : Status) (x : Word32) : opField (responseWord cw st x) = st.code :=
  (Laws.fields_of_append _ _ _).1

theorem eq_ok_of_code {st : Status} (h : st.code = Status.ok.code) : st = .ok := by
  cases st with
  | ok => rfl
  | _ => exact absurd h (by decide)

theorem status_eq_ok {cw cw' : Word64} {st : Status} {x x' : Word32}
    (h : responseWord cw st x = responseWord cw' .ok x') : st = .ok :=
  eq_ok_of_code (by rw [← opField_responseWord cw st x, h, opField_responseWord])

@[simp] theorem respond_readReg (cw : Word64) (st : Status) (x : Word32) (s : State) (r : Reg) :
    (respond cw st x s).readReg r = s.readReg r := by
  cases r <;> rfl

/-- RDREG answers the register and does nothing else, in every mode (R151). -/
theorem exec_rdreg (s : State) (hreg : regOfNumber? idx = some r) :
    exec (.rdreg idx 0) s = .next (respond (encode (.rdreg idx 0)) .ok (s.readReg r) s) := by
  have hwf : (Instr.rdreg idx 0).wellFormed = true := rfl
  simp only [exec, execRdreg, gateInFault, hwf, if_true, hreg]

theorem finiteValue_of_ofBits? {v : F} (h : ofBits? s.num d = some v) : v = finiteValue s d := by
  rw [ofBits?] at h
  by_cases hfinite : isNonFiniteWord d = true
  · rw [if_pos hfinite] at h; cases h
  · rw [if_neg hfinite] at h; exact (Option.some.inj h).symm

/-- The word a read gives after `d` was written to the register numbered `idx`: negative zero comes back as zero from an
F register (R23, R7). -/
def wordReadBack (idx : Index) (d : Word32) : Word32 :=
  if 4 ≤ idx.toNat ∧ idx.toNat ≤ 7 ∧ d = negativeZero then 0 else d

theorem readReg_setCfg_of_write {c : Cfg} (hwrite : s.cfg.write s.num r d = some c)
    (hround : 4 ≤ r.number.toNat → r.number.toNat ≤ 7 →
      s.num.toBits (finiteValue s d) = if d = negativeZero then 0 else d) :
    (setCfg c s).readReg r = wordReadBack r.number d := by
  cases r with
  | fftSize | numBands | sampleRate | channels => cases hwrite; rfl
  | minDb | alpha | fLo | fHi =>
    obtain ⟨v, hv, rfl⟩ := Option.map_eq_some_iff.1 hwrite
    obtain rfl := finiteValue_of_ofBits? hv
    simpa [wordReadBack, State.readReg, Reg.number] using hround (by decide) (by decide)
  | cfgFlags =>
    simp only [Cfg.write] at hwrite
    split_ifs at hwrite
    cases hwrite
    rfl
  | mode | status | errCode | errCmdHi | errCmdLo | winLen | pushCnt | frameCnt => cases hwrite

end ReadBack

/-- Settles O40: an OK answer means that WRCFG wrote the register, and RDREG gives back what was written. -/
theorem configurationReadsBack : Obligations.ConfigurationReadsBack := by
  intro s t idx d _ hround hexec hanswer
  rcases exec_wrcfg_cases hexec with ⟨st, x, hst, rfl⟩ | ⟨r, c, _, hreg, hwrite, rfl⟩
  · rw [respond_responsePort, List.append_cancel_left_eq, List.singleton_inj] at hanswer
    exact absurd (status_eq_ok hanswer) hst
  · obtain rfl := number_of_regOfNumber? hreg
    rw [exec_rdreg _ hreg, respond_readReg, readReg_setCfg_of_write hwrite hround]
    rfl

end Sys2Proof.Proofs


/-! The command stream and the responses: a serialised command is read back (R52, R70), a step runs the command it takes
from the port (R55), every command word is answered once and in order (R55, R71), and a read does nothing but answer
(R51, R54, R151 to R158). -/

namespace Sys2Proof.Proofs

open Sys2Proof Sys2Proof.Machine

/-! ## A serialised command is read back (R52, R70) -/

theorem encodedFields (i : Instr) : Laws.EncodedFields.Statement i := Laws.fields_of_append ..

/-- Decoding looks at the opcode for the command and at the other two fields for its operands (R70, R73). -/
theorem decode_encode (i : Instr) : decode (encode i) = .ok i := by
  obtain ⟨hop, hidx, hdata⟩ := encodedFields i
  unfold decode
  rw [hop, hidx, hdata]
  cases i <;> rfl

/-- The eight bytes of a word, put together again, are the word: neighbouring bytes join to one field (R52). -/
theorem wordOfBytes_bytesOfWord (w : Word64) :
    wordOfBytes (w.extractLsb' 0 8) (w.extractLsb' 8 8) (w.extractLsb' 16 8) (w.extractLsb' 24 8)
      (w.extractLsb' 32 8) (w.extractLsb' 40 8) (w.extractLsb' 48 8) (w.extractLsb' 56 8) = w := by
  have join (start high low : Nat) : w.extractLsb' (start + low) high ++ w.extractLsb' start low =
      w.extractLsb' start (high + low) := BitVec.extractLsb'_append_extractLsb'_eq_extractLsb' rfl
  rw [wordOfBytes, join 48 8 8, join 40 16 8, join 32 24 8, join 24 32 8, join 16 40 8, join 8 48 8, join 0 56 8,
    BitVec.extractLsb'_eq_self]

theorem decodeBytes_bytesOfWord {w : Word64} {i : Instr} (h : decode w = .ok i) (rest : List Byte) :
    decodeBytes (bytesOfWord w ++ rest) = .ok (i, rest) := by
  simp only [bytesOfWord, List.cons_append, List.nil_append, decodeBytes, wordOfBytes_bytesOfWord, h]

/-- Settles O4: the bytes give the word back, and the word the command. -/
theorem serialisedCommandDecodes : Obligations.SerialisedCommandDecodes :=
  fun i rest => decodeBytes_bytesOfWord (decode_encode i) rest

/-! ## A command word at the port (R55) -/

section Commands

variable {s t : State} {i : Instr} {cw : Word64} {rest : List PortEvent}

theorem step_of_decode (hport : s.commandPort = .command cw :: rest) (hdecode : decode cw = .ok i) :
    step s = exec i { s with commandPort := rest } := by
  rw [step, fetch?_command s _ rest hport]
  simp only [hdecode]

/-- No command stops the machine. -/
theorem exec_next (i : Instr) (s : State) : ∃ t, exec i s = .next t := by
  cases i <;> exact ⟨_, rfl⟩

/-- Nothing stops the machine. -/
theorem step_next (s : State) : ∃ t, step s = .next t := by
  unfold step
  split
  · exact ⟨_, rfl⟩
  · exact ⟨_, rfl⟩
  · split
    · exact exec_next ..
    · exact ⟨_, rfl⟩

/-- Every effect of a command answers it once and leaves what waits at the port (R71, R190). -/
theorem answered_of_effect (h : Effect s i t) : t.commandPort = s.commandPort ∧
    ∃ st d, t.responsePort = s.responsePort ++ [responseWord (encode i) st d] := by
  cases h <;> exact ⟨rfl, _, _, rfl⟩

/-- A reserved opcode is answered once too (R74). -/
theorem answered_illegalOpcode (cw : Word64) (s : State) : (illegalOpcode cw s).commandPort = s.commandPort ∧
    ∃ st d, (illegalOpcode cw s).responsePort = s.responsePort ++ [responseWord cw st d] := by
  rcases illegalOpcode_cases cw s with ⟨_, h⟩ | ⟨_, h⟩ <;> rw [h] <;> exact ⟨rfl, _, _, rfl⟩

/-- Every command word is used up and answered once (R71, R190). -/
theorem step_answers (hport : s.commandPort = .command cw :: rest) :
    ∃ t st d, step s = .next t ∧ t.commandPort = rest ∧ t.responsePort = s.responsePort ++ [responseWord cw st d] := by
  obtain ⟨t, hstep⟩ := step_next s
  rcases step_cases hstep with ⟨hempty, _⟩ | ⟨_, hreset, _⟩ | ⟨i, _, hcommand, heffect⟩ | ⟨_, _, hword, rfl⟩
  · cases hport.symm.trans hempty
  · cases hport.symm.trans hreset
  · cases hport.symm.trans hcommand
    obtain ⟨hrest, st, d, hanswer⟩ := answered_of_effect heffect
    exact ⟨t, st, d, hstep, hrest, hanswer⟩
  · cases hport.symm.trans hword
    obtain ⟨hrest, st, d, hanswer⟩ := answered_illegalOpcode cw { s with commandPort := rest }
    exact ⟨_, st, d, hstep, hrest, hanswer⟩

/-- A response echoes the OP field of its command (R71): the field stands in the low byte of the 24 bits under ST. -/
theorem opEcho_responseWord (cw : Word64) (st : Status) (d : Word32) :
    (responseWord cw st d).extractLsb' 32 8 = cw.extractLsb' 56 8 := by
  obtain ⟨_, hmiddle, _⟩ : _ ∧ idxField (responseWord cw st d) = (opField cw).setWidth 24 ∧ _ :=
    Laws.fields_of_append ..
  calc (responseWord cw st d).extractLsb' 32 8
    _ = (idxField (responseWord cw st d)).setWidth 8 := by
      rw [idxField, BitVec.setWidth_extractLsb'_of_le (by decide)]
    _ = opField cw := by rw [hmiddle, BitVec.setWidth_setWidth_of_le _ (by decide), BitVec.setWidth_eq]

theorem run_succ_of_step {M : Host.Core} {s t : M.State} (hstep : M.step s = .next t) (n : Nat) :
    M.run (n + 1) s = M.run n t := by
  rw [Host.Core.run, hstep]

end Commands

/-- Settles O8. -/
theorem stepRunsDecodedCommand : Obligations.StepRunsDecodedCommand :=
  fun _ _ _ _ hport hdecode => step_of_decode hport hdecode

/-- Settles O11, by induction on the command words: the first is answered, and the run of the others starts from the
state it leaves. -/
theorem responsesFollowCommands : Obligations.ResponsesFollowCommands := by
  intro s cws hport
  induction cws generalizing s with
  | nil => exact ⟨s, [], rfl, hport, (List.append_nil _).symm, rfl⟩
  | cons cw cws ih =>
    obtain ⟨t, st, d, hstep, hrest, hanswer⟩ := step_answers hport
    obtain ⟨u, rws, hrun, hempty, hanswers, hechoes⟩ := ih t hrest
    refine ⟨u, responseWord cw st d :: rws, (run_succ_of_step (M := core) hstep _).trans hrun, hempty, ?_, ?_⟩
    · rw [hanswers, hanswer, List.append_assoc, List.singleton_append]
    · rw [List.map_cons, List.map_cons, opEcho_responseWord, hechoes]

/-! ## Reads (R54, R151 to R158) -/

section Reads

variable {s : State} {idx : Index} {i : Instr}

/-- The numbers R51 reserves name no register. -/
theorem regOfNumber?_reserved (h : (0x09 ≤ idx.toNat ∧ idx.toNat ≤ 0x0F) ∨ 0x18 ≤ idx.toNat) :
    regOfNumber? idx = none := by
  unfold regOfNumber?
  split
  case h_18 => rfl
  all_goals omega

theorem exec_rdreg_reserved (s : State) (hreg : regOfNumber? idx = none) :
    exec (.rdreg idx 0) s = .next (respond (encode (.rdreg idx 0)) .badIndex 0 s) := by
  have hwf : (Instr.rdreg idx 0).wellFormed = true := rfl
  simp only [exec, execRdreg, gateInFault, hwf, if_true, hreg]

/-- In `s` the command `i` answers and does nothing else, and its answer does not depend on the answers before it. -/
def OnlyAnswers (s : State) (i : Instr) : Prop :=
  ∃ st d, ∀ rws, exec i { s with responsePort := rws } =
    .next (respond (encode i) st d { s with responsePort := rws })

theorem readReg_withResponses (s : State) (rws : List Word64) (r : Reg) :
    ({ s with responsePort := rws } : State).readReg r = s.readReg r := by
  cases r <;> rfl

theorem onlyAnswers_rdreg (s : State) (idx : Index) : OnlyAnswers s (.rdreg idx 0) := by
  cases hreg : regOfNumber? idx with
  | none => exact ⟨.badIndex, 0, fun _ => exec_rdreg_reserved _ hreg⟩
  | some r => exact ⟨.ok, s.readReg r, fun rws => by rw [exec_rdreg _ hreg, readReg_withResponses]⟩

/-- The checks of an array read look at nothing but MODE, the index, the length and RES_VALID (R193). -/
theorem readArray_onlyAnswers (len : Word32) (needsFrame : Bool) (value : Word32) (s : State)
    (hwf : i.wellFormed = true) :
    ∃ st d, ∀ rws, readArray i len needsFrame value { s with responsePort := rws } =
      respond (encode i) st d { s with responsePort := rws } := by
  by_cases hfault : s.mode = .fault
  · exact ⟨.faulted, s.errCode, fun _ => gate_of_fault _ _ _ hfault⟩
  have hgate (rws : List Word64) := gate_of_wellFormed i { s with responsePort := rws } (h := hfault) (hw := hwf)
  simp only [readArray, hgate]
  split_ifs
  · exact ⟨.badMode, s.mode.code, fun _ => rfl⟩
  · exact ⟨.badIndex, 0, fun _ => rfl⟩
  · exact ⟨.notValid, 0, fun _ => rfl⟩
  · exact ⟨.ok, value, fun _ => rfl⟩

/-- The length and the element of an array read do not depend on the answers given before it. -/
theorem exec_arrayRead_withResponses (s : State)
    (hi : i ∈ [Instr.rdsm idx 0, .rddb idx 0, .rdmag idx 0, .rdblo idx 0, .rdbhi idx 0, .rdflo idx 0, .rdfhi idx 0]) :
    ∃ len needsFrame value, exec i s = .next (readArray i len needsFrame value s) ∧
      ∀ rws, exec i { s with responsePort := rws } =
        .next (readArray i len needsFrame value { s with responsePort := rws }) := by
  simp only [List.mem_cons, List.not_mem_nil, or_false] at hi
  rcases hi with rfl | rfl | rfl | rfl | rfl | rfl | rfl <;> exact ⟨_, _, _, rfl, fun _ => rfl⟩

theorem onlyAnswers_arrayRead (s : State)
    (hi : i ∈ [Instr.rdsm idx 0, .rddb idx 0, .rdmag idx 0, .rdblo idx 0, .rdbhi idx 0, .rdflo idx 0, .rdfhi idx 0]) :
    OnlyAnswers s i := by
  obtain ⟨hwf, _⟩ := exec_arrayRead s hi
  obtain ⟨len, needsFrame, value, _, hexec⟩ := exec_arrayRead_withResponses s hi
  obtain ⟨st, d, hread⟩ := readArray_onlyAnswers len needsFrame value s hwf
  exact ⟨st, d, fun rws => by rw [hexec, hread]⟩

theorem OnlyAnswers.repeated (h : OnlyAnswers s i) :
    ∃ rw, exec i s = .next { s with responsePort := s.responsePort ++ [rw] } ∧
      exec i { s with responsePort := s.responsePort ++ [rw] } =
        .next { s with responsePort := s.responsePort ++ [rw, rw] } := by
  obtain ⟨st, d, hexec⟩ := h
  refine ⟨responseWord (encode i) st d, hexec s.responsePort, ?_⟩
  rw [hexec, respond, List.append_assoc, List.singleton_append]

end Reads

/-- Settles O38. -/
theorem rdregReservedNumber : Obligations.RdregReservedNumber :=
  fun s _ hreserved => exec_rdreg_reserved s (regOfNumber?_reserved hreserved)

/-- Settles O43: each of the eight reads only answers. -/
theorem readsHaveNoSideEffect : Obligations.ReadsHaveNoSideEffect := by
  intro s idx i hi
  rcases List.mem_cons.1 hi with rfl | harray
  · exact (onlyAnswers_rdreg s idx).repeated
  · exact (onlyAnswers_arrayRead s harray).repeated

end Sys2Proof.Proofs


/-! The encoding of commands and responses (R70, R71, R73, R74, R79, R80), and what the words that are no well-formed
command do (R74, R75). -/

namespace Sys2Proof.Proofs

open Sys2Proof Sys2Proof.Machine

/-! ## Command words (R70, R73, R74, R80) -/

section CommandWords

variable {w : Word64} {i : Instr}

/-- Decoding and encoding are inverse to each other. -/
theorem decode_eq_ok_iff : decode w = .ok i ↔ encode i = w :=
  ⟨encode_of_decode, fun h => h ▸ decode_encode i⟩

/-- None of the opcodes of R73's table is one that R74 reserves. -/
theorem decode_of_reserved (h : isReservedOpcode (opField w) = true) :
    decode w = .error (.reservedOpcode (opField w)) := by
  unfold decode
  split
  case h_18 => rfl
  all_goals
    rename_i hop
    simp [isReservedOpcode, hop] at h

/-- R73 and R74 together leave no opcode out. -/
theorem exists_decode_of_not_reserved (h : isReservedOpcode (opField w) = false) : ∃ i, decode w = .ok i := by
  unfold decode
  split
  case h_18 =>
    simp only [isReservedOpcode, decide_eq_false_iff_not, imp_false] at *
    omega
  all_goals exact ⟨_, rfl⟩

end CommandWords

/-- Settles O1. -/
theorem decodeOfEncode : Obligations.DecodeOfEncode := decode_encode

/-- Settles O2. -/
theorem encodeOfDecode : Obligations.EncodeOfDecode := fun _ _ => encode_of_decode

/-- Settles O3. -/
theorem reservedOpcodesRejected : Obligations.ReservedOpcodesRejected :=
  fun _ => ⟨decode_of_reserved, exists_decode_of_not_reserved⟩

/-- Settles O5: each command word of R80 is the word of its command. -/
theorem workedEncodingsDecode : Obligations.WorkedEncodingsDecode := by
  unfold Obligations.WorkedEncodingsDecode
  simp only [decode_eq_ok_iff]
  decide

/-! ## Response words (R71, R76) -/

/-- The two high bytes of the 24 bits that echo OP are zero (R71). -/
theorem zeroBits_responseWord (cw : Word64) (st : Status) (d : Word32) :
    (responseWord cw st d).extractLsb' 40 16 = 0 := by
  obtain ⟨_, hmiddle, _⟩ : _ ∧ idxField (responseWord cw st d) = (opField cw).setWidth 24 ∧ _ :=
    Laws.fields_of_append ..
  calc (responseWord cw st d).extractLsb' 40 16
    _ = (idxField (responseWord cw st d)).extractLsb' 8 16 := by
      ext k hk
      simp [idxField, show 8 + k < 24 by omega, show 40 + k = 32 + (8 + k) by omega]
    _ = ((opField cw).setWidth 24).extractLsb' 8 16 := by rw [hmiddle]
    _ = 0 := by
      ext k hk
      simp

theorem dataField_responseWord (cw : Word64) (st : Status) (d : Word32) : dataField (responseWord cw st d) = d := by
  obtain ⟨_, _, hdata⟩ := Laws.fields_of_append st.code ((opField cw).setWidth 24) d
  exact hdata

/-- Settles O7, field by field. -/
theorem responseWordFields : Obligations.ResponseWordFields := fun cw st d =>
  ⟨opField_responseWord cw st d, zeroBits_responseWord cw st d, opEcho_responseWord cw st d,
    dataField_responseWord cw st d⟩

/-- Settles O10. -/
theorem everyCommandAnsweredOnce : Obligations.EveryCommandAnsweredOnce := fun _ _ _ => step_answers

/-! ## Words with a reserved opcode (R74) -/

section ReservedOpcodes

variable {s : State} {cw : Word64} {rest : List PortEvent}

theorem step_of_reserved (hport : s.commandPort = .command cw :: rest) (h : isReservedOpcode (opField cw) = true) :
    step s = .next (illegalOpcode cw { s with commandPort := rest }) := by
  rw [step, fetch?_command s _ rest hport]
  simp only [decode_of_reserved h]

end ReservedOpcodes

/-- Settles O9, by the two things a reserved opcode can do. -/
theorem reservedOpcodeFaults : Obligations.ReservedOpcodeFaults := by
  intro s cw rest hport hreserved
  rw [step_of_reserved hport hreserved]
  rcases illegalOpcode_cases cw { s with commandPort := rest } with ⟨hfault, h⟩ | ⟨hmode, h⟩ <;> rw [h]
  · exact ⟨absurd hfault, fun _ => rfl⟩
  · exact ⟨fun _ => rfl, (absurd · hmode)⟩

/-! ## Unused fields (R73, R75) -/

section UnusedFields

variable {i : Instr} {s : State}

theorem wellFormed_iff :
    i.wellFormed = true ↔ (i.usesIdx = true ∨ i.idx = 0) ∧ (i.usesData = true ∨ i.data = 0) := by
  simp [Instr.wellFormed]

theorem wellFormed_iff_of_no_field (hidx : i.usesIdx = false) (hdata : i.usesData = false) :
    i.wellFormed = true ↔ i.idx = 0 ∧ i.data = 0 := by
  simp [wellFormed_iff, hidx, hdata]

theorem wellFormed_iff_of_idx (hidx : i.usesIdx = true) (hdata : i.usesData = false) :
    i.wellFormed = true ↔ i.data = 0 := by
  simp [wellFormed_iff, hidx, hdata]

theorem wellFormed_iff_of_data (hidx : i.usesIdx = false) (hdata : i.usesData = true) :
    i.wellFormed = true ↔ i.idx = 0 := by
  simp [wellFormed_iff, hidx, hdata]

theorem wellFormed_wrcfg (idx : Index) (data : Word32) : (Instr.wrcfg idx data).wellFormed = true := rfl

theorem gateInFault_of_badField (body : State → State) (hmode : s.mode ≠ .fault) (hwf : i.wellFormed = false) :
    gateInFault i s body = takeFault (encode i) ErrCode.fBadField s := by
  simp [gateInFault, hmode, hwf]

/-- The check of the unused fields stands before the body of every command (R193 check 3). -/
theorem exec_of_badField (hwf : i.wellFormed = false) (hmode : s.mode ≠ .fault) :
    exec i s = .next (takeFault (encode i) ErrCode.fBadField s) := by
  cases i with
  | reset | rdreg => exact congrArg _ (gateInFault_of_badField _ hmode hwf)
  | wrcfg => rw [wellFormed_wrcfg] at hwf; cases hwf
  | _ => exact congrArg _ (gate_of_badField _ s _ hmode hwf)

end UnusedFields

/-- Settles O6: the commands that use no field, IDX alone, DATA alone, and WRCFG, which uses both. -/
theorem wellFormedIffUnusedFieldsZero : Obligations.WellFormedIffUnusedFieldsZero := by
  intro idx data
  have noField {i : Instr} := wellFormed_iff_of_no_field (i := i)
  have onlyIdx {i : Instr} := wellFormed_iff_of_idx (i := i)
  have onlyData {i : Instr} := wellFormed_iff_of_data (i := i)
  exact ⟨noField rfl rfl, noField rfl rfl, wellFormed_wrcfg idx data, onlyIdx rfl rfl, noField rfl rfl,
    noField rfl rfl, noField rfl rfl, noField rfl rfl, onlyData rfl rfl, noField rfl rfl, onlyIdx rfl rfl,
    onlyIdx rfl rfl, onlyIdx rfl rfl, onlyIdx rfl rfl, onlyIdx rfl rfl, onlyIdx rfl rfl, onlyIdx rfl rfl⟩

/-- Settles O16: R194's entry is what taking the fault writes. -/
theorem unusedFieldFaults : Obligations.UnusedFieldFaults :=
  ⟨fun _ _ hwf hmode => exec_of_badField hwf hmode, wellFormed_wrcfg⟩

/-! ## Pseudo-instructions (R79) -/

/-- Settles O60: each is an equation of `Pseudo.expand`. -/
theorem pseudoInstructionExpansions : Obligations.PseudoInstructionExpansions :=
  ⟨fun _ => rfl, fun _ _ => rfl, fun _ => rfl⟩

end Sys2Proof.Proofs


/-! The Frame Extractor (R100 to R103): what PUSH and FRAME do in RUNNING, and the window after many pushes. -/

namespace Sys2Proof.Proofs

open Sys2Proof Sys2Proof.Machine

/-! ## Pushing many samples into a window (R100, R103) -/

section Window

variable {V : Type} {cap c : Nat}

theorem foldl_pushWindow_of_room {win vs : List V} (h : win.length + vs.length ≤ cap) :
    vs.foldl (pushWindow cap c) win = win ++ vs := by
  induction vs generalizing win with
  | nil => exact (List.append_nil win).symm
  | cons v vs ih =>
    rw [List.length_cons] at h
    have hrest : (win ++ [v]).length + vs.length ≤ cap := by rw [List.length_append, List.length_singleton]; omega
    rw [List.foldl_cons, pushWindow_of_room cap c win v (by omega), ih hrest, List.append_assoc, List.singleton_append]

/-- A window without room stays empty: each sample is evicted with its own push. -/
theorem foldl_pushWindow_of_no_room (hc : 0 < c) (vs : List V) : vs.foldl (pushWindow 0 c) [] = [] := by
  induction vs with
  | nil => rfl
  | cons v vs ih =>
    rw [List.foldl_cons, pushWindow_of_full 0 c [] v (Nat.zero_le _), List.drop_of_length_le (Nat.succ_le_of_lt hc), ih]

/-- A group pushed into a full window replaces the oldest group: its first sample evicts that group, and the others find
the room it left. -/
theorem foldl_pushWindow_group_of_full {win group : List V} (hc : 0 < c) (hroom : c ≤ cap) (hfull : win.length = cap)
    (hgroup : group.length = c) : group.foldl (pushWindow cap c) win = (win ++ group).drop c := by
  cases group with
  | nil => exact absurd hgroup hc.ne
  | cons v vs =>
    have hevict : pushWindow cap c win v = win.drop c ++ [v] := by
      rw [pushWindow_of_full cap c win v hfull.ge, List.drop_append_of_le_length (by omega)]
    have hrest : (win.drop c ++ [v]).length + vs.length ≤ cap := by
      rw [List.length_cons] at hgroup
      rw [List.length_append, List.length_drop, List.length_singleton]
      omega
    rw [List.foldl_cons, hevict, foldl_pushWindow_of_room hrest, List.drop_append_of_le_length (by omega),
      List.append_assoc, List.singleton_append]

/-- A whole group pushed into a window of whole groups leaves the latest samples, as many as there is room for. -/
theorem foldl_pushWindow_group {win group : List V} (hc : 0 < c) (hcap : c ∣ cap) (hwin : c ∣ win.length)
    (hle : win.length ≤ cap) (hgroup : group.length = c) :
    group.foldl (pushWindow cap c) win = (win ++ group).rtake cap := by
  rcases Nat.eq_zero_or_pos cap with rfl | hpos
  · obtain rfl : win = [] := List.eq_nil_of_length_eq_zero (by omega)
    rw [foldl_pushWindow_of_no_room hc, List.rtake_zero]
  rw [List.rtake, List.length_append, hgroup]
  rcases hle.eq_or_lt with hfull | hlt
  · rw [foldl_pushWindow_group_of_full hc (Nat.le_of_dvd hpos hcap) hfull hgroup, hfull, Nat.add_sub_cancel_left]
  · have hfree : c ≤ cap - win.length := Nat.le_of_dvd (by omega) (Nat.dvd_sub hcap hwin)
    rw [foldl_pushWindow_of_room (by omega), Nat.sub_eq_zero_of_le (by omega), List.drop_zero]

theorem length_rtake (vs : List V) (n : Nat) : (vs.rtake n).length = min n vs.length := by
  rw [List.rtake, List.length_drop]
  omega

/-- The latest samples of a stream are known from the latest samples of its beginning and all that follow. -/
theorem rtake_rtake_append (n : Nat) (vs ws : List V) : (vs.rtake n ++ ws).rtake n = (vs ++ ws).rtake n := by
  have hle : vs.length - n ≤ vs.length := Nat.sub_le ..
  rw [List.rtake, List.rtake, List.rtake, ← List.drop_append_of_le_length hle, List.drop_drop, List.length_drop,
    List.length_append]
  congr 1
  omega

/-- R103 (b): `g` whole groups pushed into a window of whole groups leave the latest samples. -/
theorem foldl_pushWindow_groups (hc : 0 < c) (hcap : c ∣ cap) (g : Nat) {win vs : List V} (hwin : c ∣ win.length)
    (hle : win.length ≤ cap) (hlength : vs.length = g * c) :
    vs.foldl (pushWindow cap c) win = (win ++ vs).rtake cap := by
  induction g generalizing win vs with
  | zero =>
    obtain rfl : vs = [] := List.eq_nil_of_length_eq_zero (by omega)
    simp [List.rtake, hle]
  | succ g ih =>
    rw [Nat.succ_mul] at hlength
    have hgroup : (vs.take c).length = c := by rw [List.length_take]; omega
    have hrest : (vs.drop c).length = g * c := by rw [List.length_drop]; omega
    have hwhole : c ∣ ((win ++ vs.take c).rtake cap).length := by
      rw [length_rtake, List.length_append, hgroup]
      rcases min_choice cap (win.length + c) with h | h <;> rw [h]
      · exact hcap
      · exact hwin.add (dvd_refl c)
    calc vs.foldl (pushWindow cap c) win
      _ = (vs.drop c).foldl (pushWindow cap c) ((vs.take c).foldl (pushWindow cap c) win) := by
        rw [← List.foldl_append, List.take_append_drop]
      _ = (vs.drop c).foldl (pushWindow cap c) ((win ++ vs.take c).rtake cap) := by
        rw [foldl_pushWindow_group hc hcap hwin hle hgroup]
      _ = ((win ++ vs.take c).rtake cap ++ vs.drop c).rtake cap :=
        ih hwhole (by rw [length_rtake]; exact min_le_left ..) hrest
      _ = (win ++ vs).rtake cap := by rw [rtake_rtake_append, List.append_assoc, List.take_append_drop]

end Window

/-! ## PUSH in RUNNING (R100) -/

section Push

variable {s : State} {d : Word32}

theorem ofBits?_of_nonFinite (num : Numerics F) (hd : isNonFiniteWord d = true) : ofBits? num d = none :=
  if_pos hd

theorem ofBits?_of_finite (s : State) (hd : isNonFiniteWord d = false) :
    ofBits? s.num d = some (finiteValue s d) := by
  simp [ofBits?, finiteValue, hd]

theorem exec_push_of_nonFinite (hmode : s.mode = .running) (hd : isNonFiniteWord d = true) :
    exec (.push 0 d) s = .next (takeFault (encode (.push 0 d)) ErrCode.fBadSample s) := by
  have hgate := gate_of_wellFormed (.push 0 d) s (h := by simp [hmode]) (hw := rfl)
  simp only [exec, execPush, hgate, hmode, ofBits?_of_nonFinite s.num hd]

theorem exec_push_of_finite (hmode : s.mode = .running) (hd : isNonFiniteWord d = false) :
    exec (.push 0 d) s = .next (respond (encode (.push 0 d)) .ok (storeSample (finiteValue s d) s).winLen
      (storeSample (finiteValue s d) s)) := by
  have hgate := gate_of_wellFormed (.push 0 d) s (h := by simp [hmode]) (hw := rfl)
  simp only [exec, execPush, hgate, hmode, ofBits?_of_finite s hd]

/-- The high half of the word of PUSH is its opcode, since IDX is zero; the low half is the sample (R70). -/
theorem halves_encode_push (d : Word32) :
    (encode (.push 0 d)).extractLsb' 32 32 = 0x10000000 ∧ (encode (.push 0 d)).extractLsb' 0 32 = d :=
  ⟨BitVec.extractLsb'_append_eq_left.trans (by decide : 0x10#8 ++ 0#24 = 0x10000000#32),
    BitVec.extractLsb'_append_eq_right⟩

/-- A PUSH at the port of a running engine moves its sample into the window (R55, R100). -/
theorem step_push {rest : List PortEvent} (hmode : s.mode = .running) (hd : isNonFiniteWord d = false)
    (hport : s.commandPort = .command (encode (.push 0 d)) :: rest) :
    ∃ rw t, step s = .next t ∧ t =
      { s with
        commandPort := rest
        responsePort := s.responsePort ++ [rw]
        win := pushWindow s.cfg.cap s.cfg.channels.toNat s.win (finiteValue s d)
        pushCnt := s.pushCnt + 1 } :=
  ⟨_, _, (step_of_decode hport (decode_encode _)).trans (exec_push_of_finite hmode hd), rfl⟩

/-- A run over PUSH commands with finite samples pushes the samples one after the other and answers each. -/
theorem run_pushes (ds : List Word32) (hmode : s.mode = .running) (hfinite : ∀ d ∈ ds, isNonFiniteWord d = false)
    (hport : s.commandPort = ds.map (fun d => .command (encode (.push 0 d)))) :
    ∃ rws, Host.Core.run core ds.length s = .next
      { s with
        commandPort := []
        responsePort := s.responsePort ++ rws
        win := (ds.map (finiteValue s)).foldl (pushWindow s.cfg.cap s.cfg.channels.toNat) s.win
        pushCnt := s.pushCnt + BitVec.ofNat 32 ds.length } := by
  induction ds generalizing s with
  | nil =>
    have hempty : s.commandPort = [] := hport
    exact ⟨[], by rw [List.append_nil, List.length_nil, BitVec.add_zero, ← hempty]; rfl⟩
  | cons d ds ih =>
    obtain ⟨hd, hds⟩ := List.forall_mem_cons.1 hfinite
    obtain ⟨rw, t, hstep, ht⟩ := step_push hmode hd hport
    obtain ⟨rws, hrun⟩ := ih (s := t) (ht ▸ hmode) hds (ht ▸ rfl)
    have hcount : s.pushCnt + BitVec.ofNat 32 (ds.length + 1) = s.pushCnt + 1 + BitVec.ofNat 32 ds.length := by
      rw [Nat.add_comm, BitVec.ofNat_add, ← BitVec.add_assoc]
      rfl
    subst ht
    refine ⟨rw :: rws, ?_⟩
    rw [List.length_cons, hcount, ← List.singleton_append, ← List.append_assoc]
    exact (run_succ_of_step (M := core) hstep _).trans hrun

end Push

/-- Settles O30: the run pushes the samples in order, and groups pushed into an empty window leave the latest. -/
theorem windowHoldsLatestGroups : Obligations.WindowHoldsLatestGroups := by
  intro s ds g hmode hempty hchannels hlength hfinite hport
  obtain ⟨rws, hrun⟩ := run_pushes ds hmode hfinite hport
  have hwhole : s.cfg.channels.toNat ∣ s.cfg.cap := Dvd.intro_left _ rfl
  have hwindow : (ds.map (finiteValue s)).foldl (pushWindow s.cfg.cap s.cfg.channels.toNat) s.win =
      (ds.map (finiteValue s)).drop (ds.length - s.cfg.cap) := by
    rw [hempty, foldl_pushWindow_groups hchannels hwhole g (dvd_zero _) (Nat.zero_le _)
      (by rw [List.length_map, hlength]), List.nil_append, List.rtake, List.length_map]
  exact ⟨rws, by rw [hrun, hwindow]⟩

/-- Settles O28, by the window with and without room. -/
theorem pushAppendsAndEvicts : Obligations.PushAppendsAndEvicts := by
  intro s d hmode hd
  rw [exec_push_of_finite hmode hd, respond, State.winLen, storeSample]
  refine ⟨fun hroom => ?_, fun hfull => ?_⟩
  · rw [pushWindow_of_room _ _ _ _ hroom, List.length_append]
    rfl
  · rw [pushWindow_of_full _ _ _ _ hfull, List.length_drop, List.length_append]
    rfl

/-- Settles O29: R194's entry for the word of PUSH. -/
theorem pushOfNonFiniteWordFaults : Obligations.PushOfNonFiniteWordFaults := by
  intro s d hmode hd
  obtain ⟨hhigh, hlow⟩ := halves_encode_push d
  rw [exec_push_of_nonFinite hmode hd, takeFault, hhigh, hlow]
  rfl

/-! ## FRAME in RUNNING (R101) -/

section Frame

variable {s : State}

theorem exec_frame_of_running (hmode : s.mode = .running) :
    exec (.frame 0 0) s = .next
      (if s.win.length ≠ s.cfg.cap then respond (encode (.frame 0 0)) .notReady s.winLen s
      else if allFinite s.num (analyse s) then
        respond (encode (.frame 0 0)) .ok (s.frameCnt + 1) (storeFrame (analyse s) s)
      else takeFault (encode (.frame 0 0)) ErrCode.fNumeric s) := by
  have hgate := gate_of_wellFormed (.frame 0 0) s (h := by simp [hmode]) (hw := rfl)
  simp only [exec, execFrame, hgate, hmode]

theorem allFinite_iff (num : Numerics F) (a : Analysis) :
    allFinite num a = true ↔ (∀ x ∈ a.mag, num.isFinite x = true) ∧ (∀ x ∈ a.db, num.isFinite x = true) ∧
      (∀ x ∈ a.sm, num.isFinite x = true) := by
  simp only [allFinite, Bool.and_eq_true, List.all_eq_true, and_assoc]

/-- The transform and its magnitude are one pass over the bins (R111, R112). -/
theorem magnitudeSpectrum_eq {V : Type} (num : Numerics V) (m : Nat) (frame : List V) :
    magnitudeSpectrum num m frame = (List.range m).map fun k =>
      num.div (num.cabs (num.dft m (hann num m frame) k).1 (num.dft m (hann num m frame) k).2) (num.ofNat m) := by
  rw [magnitudeSpectrum, magnitude, transform, List.map_map]
  rfl

end Frame

/-- Settles O31: the stages of the statement are those of `analyse`, in the order of R101. -/
theorem frameRunsThePipeline : Obligations.FrameRunsThePipeline := by
  intro s hmode hfull num m c frame windowed mag db sm hfinite
  have hmag : magnitudeSpectrum s.num m (downmix s.num c m s.win) = mag := magnitudeSpectrum_eq ..
  have hanalyse : analyse s = { mag := mag, db := db, sm := sm } := by
    rw [analyse, hmag]
    rfl
  rw [exec_frame_of_running hmode, if_neg (not_not.2 hfull), hanalyse, if_pos ((allFinite_iff ..).2 hfinite)]
  rfl

/-- Settles O32. -/
theorem frameNotReady : Obligations.FrameNotReady := by
  intro s hmode hnot
  rw [exec_frame_of_running hmode, if_pos hnot]
  rfl

/-- Settles O33: one value that is not finite is enough for the fault. -/
theorem frameNumericFault : Obligations.FrameNumericFault := by
  intro s hmode hfull ⟨x, hmem, hx⟩
  have hbad : ¬ allFinite s.num (analyse s) = true := by
    rw [allFinite_iff]
    rintro ⟨hmag, hdb, hsm⟩
    have hfinite : s.num.isFinite x = true := by
      rcases hmem with h | h | h
      · exact hmag x h
      · exact hdb x h
      · exact hsm x h
    rw [hx] at hfinite
    cases hfinite
  rw [exec_frame_of_running hmode, if_neg (not_not.2 hfull), if_neg hbad]
  rfl

end Sys2Proof.Proofs


/-! The Spectral Transformer at NUM_real (R110 to R113): the weights of the Hann window, and the spectrum of a frame as
the norms of complex bins. -/

namespace Sys2Proof.Proofs

open Sys2Proof Sys2Proof.Machine

/-! ## The Hann window (R110) -/

section HannWeights

/-- R110's formula over the real numbers. -/
theorem hannWeight_real (m i : ℕ) :
    hannWeight realNumerics m i = 1 / 2 * (1 - Real.cos (2 * Real.pi * i / (m - 1 : ℕ))) := by
  simp [hannWeight, hannFactor, realNumerics]

/-- `windowed[i]` is the sample times the weight; R9's order of evaluation is no matter over the real numbers. -/
theorem hannValue_real (m i : ℕ) (x : ℝ) :
    hannValue realNumerics m i x = hannWeight realNumerics m i * x := by
  simp only [hannValue, hannWeight, realNumerics]
  ring

@[simp] theorem hannWeight_real_zero (m : ℕ) : hannWeight realNumerics m 0 = 0 := by
  simp [hannWeight_real]

theorem hannWeight_real_nonneg (m i : ℕ) : 0 ≤ hannWeight realNumerics m i := by
  have hcos := Real.cos_le_one (2 * Real.pi * i / (m - 1 : ℕ))
  rw [hannWeight_real]
  linarith

theorem hannWeight_real_le_one (m i : ℕ) : hannWeight realNumerics m i ≤ 1 := by
  have hcos := Real.neg_one_le_cos (2 * Real.pi * i / (m - 1 : ℕ))
  rw [hannWeight_real]
  linarith

/-- The angles of the indices `i` and `m − 1 − i` make a whole turn. -/
theorem hannWeight_real_reflect {m i : ℕ} (hm : 2 ≤ m) (hi : i < m) :
    hannWeight realNumerics m (m - 1 - i) = hannWeight realNumerics m i := by
  have hm' : ((m - 1 : ℕ) : ℝ) ≠ 0 := by exact_mod_cast (by omega : m - 1 ≠ 0)
  have hturn : 2 * Real.pi * (m - 1 - i : ℕ) / (m - 1 : ℕ) =
      2 * Real.pi - 2 * Real.pi * i / (m - 1 : ℕ) := by
    rw [Nat.cast_sub (by omega : i ≤ m - 1)]
    field_simp
  rw [hannWeight_real, hannWeight_real, hturn, Real.cos_two_pi_sub]

@[simp] theorem hannWeight_real_last {m : ℕ} (hm : 2 ≤ m) : hannWeight realNumerics m (m - 1) = 0 := by
  simpa using hannWeight_real_reflect (i := 0) hm (by omega)

/-- The cosines of the angles that cut a turn into `n` parts add up to nothing. -/
theorem sum_cos_turn {n : ℕ} (hn : 1 < n) :
    ∑ i ∈ Finset.range n, Real.cos (2 * Real.pi * i / n) = 0 := by
  have hroots : ∑ i ∈ Finset.range n, Complex.exp (2 * Real.pi * Complex.I / n) ^ i = 0 :=
    (Complex.isPrimitiveRoot_exp n (by omega)).geom_sum_eq_zero hn
  calc ∑ i ∈ Finset.range n, Real.cos (2 * Real.pi * i / n)
      = (∑ i ∈ Finset.range n, Complex.exp (2 * Real.pi * Complex.I / n) ^ i).re := by
        rw [Complex.re_sum]
        refine Finset.sum_congr rfl fun i _ => ?_
        rw [← Complex.exp_nat_mul, ← Complex.exp_ofReal_mul_I_re]
        congr 2
        push_cast
        ring
    _ = 0 := by rw [hroots, Complex.zero_re]

/-- The weights add up to half the number of steps of the window: the last weight is zero, and over the others the
cosines make one whole turn. -/
theorem sum_hannWeight_real {m : ℕ} (hm : 3 ≤ m) :
    ∑ i ∈ Finset.range m, hannWeight realNumerics m i = ((m : ℝ) - 1) / 2 := by
  obtain ⟨n, rfl⟩ : ∃ n, m = n + 1 := ⟨m - 1, by omega⟩
  have hlast : hannWeight realNumerics (n + 1) n = 0 := hannWeight_real_last (by omega)
  rw [Finset.sum_range_succ, hlast]
  simp only [hannWeight_real, ← Finset.mul_sum, Finset.sum_sub_distrib, Nat.add_sub_cancel,
    sum_cos_turn (by omega : 1 < n)]
  simp
  ring

end HannWeights

/-- Settles O50, by the formula of a weight: its angle at the mirrored index and the range of the cosine. -/
theorem hannWeightsSymmetric : Obligations.HannWeightsSymmetric := by
  intro m i hm hi
  exact ⟨(hannWeight_real_reflect hm hi).symm, hannWeight_real_zero m, hannWeight_real_last hm,
    hannWeight_real_nonneg m i, hannWeight_real_le_one m i⟩

/-! ## The bins of a frame (R111, R112) -/

section Bins

/-- The factor `e^(−2πi·k·n/m)` that R111's transform gives to sample `n` in bin `k`. -/
noncomputable def twiddle (m k n : ℕ) : ℂ := Complex.exp ((-(2 * Real.pi * k * n / m) : ℝ) * Complex.I)

theorem twiddle_re (m k n : ℕ) : (twiddle m k n).re = Real.cos (2 * Real.pi * k * n / m) := by
  rw [twiddle, Complex.exp_ofReal_mul_I_re, Real.cos_neg]

theorem twiddle_im (m k n : ℕ) : (twiddle m k n).im = -Real.sin (2 * Real.pi * k * n / m) := by
  rw [twiddle, Complex.exp_ofReal_mul_I_im, Real.sin_neg]

@[simp] theorem norm_twiddle (m k n : ℕ) : ‖twiddle m k n‖ = 1 := Complex.norm_exp_ofReal_mul_I _

@[simp] theorem twiddle_dc (m n : ℕ) : twiddle m 0 n = 1 := by simp [twiddle]

/-- In the bins `k` and `m − k` a sample turns by the same angle, in opposite directions. -/
theorem twiddle_mirror {m k : ℕ} (hk : k < m) (n : ℕ) :
    twiddle m (m - k) n = (starRingEnd ℂ) (twiddle m k n) := by
  have hm : (m : ℝ) ≠ 0 := by exact_mod_cast (by omega : m ≠ 0)
  have hturns : 2 * Real.pi * (m - k : ℕ) * n / m = n * (2 * Real.pi) - 2 * Real.pi * k * n / m := by
    rw [Nat.cast_sub hk.le]
    field_simp
  apply Complex.ext
  · rw [Complex.conj_re, twiddle_re, twiddle_re, hturns, Real.cos_nat_mul_two_pi_sub]
  · rw [Complex.conj_im, twiddle_im, twiddle_im, hturns, Real.sin_nat_mul_two_pi_sub, neg_neg]

/-- At the Nyquist bin each sample turns by half a turn. -/
theorem twiddle_nyquist {h : ℕ} (hh : 0 < h) (n : ℕ) : twiddle (2 * h) h n = (-1) ^ n := by
  have hh' : (h : ℂ) ≠ 0 := by exact_mod_cast hh.ne'
  have hangle : ((-(2 * Real.pi * h * n / (2 * h : ℕ)) : ℝ) * Complex.I : ℂ) = n * -(Real.pi * Complex.I) := by
    push_cast
    field_simp
  rw [twiddle, hangle, Complex.exp_nat_mul, Complex.exp_neg, Complex.exp_pi_mul_I]
  norm_num

/-- Bin `k` of R111's transform of the windowed frame, as one complex number. -/
noncomputable def windowedBin (m : ℕ) (frame : List ℝ) (k : ℕ) : ℂ :=
  ∑ i ∈ Finset.range m, (hannWeight realNumerics m i * frame.getD i 0 : ℝ) * twiddle m k i

/-- The windowed frame, by its indices. -/
theorem hann_real {m : ℕ} {frame : List ℝ} (h : frame.length = m) :
    hann realNumerics m frame = (List.range m).map fun i => hannWeight realNumerics m i * frame.getD i 0 := by
  apply List.ext_getElem
  · simp [hann, h]
  · intro i hi _
    have hi : i < frame.length := by simpa [hann, h] using hi
    simp [hann, hannValue_real, hi]

/-- R111 at NUM_real, in its real and imaginary parts. -/
theorem realNumerics_dft (m k : ℕ) (xs : List ℝ) :
    realNumerics.dft m xs k =
      ((xs.zipIdx.map fun p => p.1 * Real.cos (2 * Real.pi * k * p.2 / m)).sum,
        -(xs.zipIdx.map fun p => p.1 * Real.sin (2 * Real.pi * k * p.2 / m)).sum) := rfl

/-- A sum over the values of a list with their indices. -/
theorem sum_zipIdx_map_range {R : Type} [AddCommMonoid R] (m : ℕ) (x : ℕ → ℝ) (f : ℝ × ℕ → R) :
    ((((List.range m).map x).zipIdx).map f).sum = ∑ i ∈ Finset.range m, f (x i, i) := by
  induction m with
  | zero => rfl
  | succ m ih =>
    rw [List.range_succ, List.map_append, List.zipIdx_append, List.map_append, List.sum_append, ih,
      Finset.sum_range_succ]
    simp

/-- The modulus of the transform's pair is the norm of the bin. -/
theorem cabs_dft_real {m : ℕ} {frame : List ℝ} (h : frame.length = m) (k : ℕ) :
    realNumerics.cabs (realNumerics.dft m (hann realNumerics m frame) k).1
      (realNumerics.dft m (hann realNumerics m frame) k).2 = ‖windowedBin m frame k‖ := by
  have hre : (realNumerics.dft m (hann realNumerics m frame) k).1 = (windowedBin m frame k).re := by
    rw [hann_real h, realNumerics_dft, sum_zipIdx_map_range]
    simp only [windowedBin, Complex.re_sum, Complex.re_ofReal_mul, twiddle_re]
  have him : (realNumerics.dft m (hann realNumerics m frame) k).2 = (windowedBin m frame k).im := by
    rw [hann_real h, realNumerics_dft, sum_zipIdx_map_range, sum_zipIdx_map_range]
    simp only [windowedBin, Complex.im_sum, Complex.im_ofReal_mul, twiddle_im, mul_neg, Finset.sum_neg_distrib]
  rw [hre, him, Complex.norm_eq_sqrt_sq_add_sq]
  rfl

/-- R112 at NUM_real: the spectrum is the norms of the bins over the number of points. -/
theorem magnitudeSpectrum_real {m : ℕ} {frame : List ℝ} (h : frame.length = m) :
    magnitudeSpectrum realNumerics m frame = (List.range m).map fun k => ‖windowedBin m frame k‖ / m := by
  simp only [magnitudeSpectrum_eq, cabs_dft_real h]
  rfl

/-- One magnitude of the spectrum. -/
theorem magnitudeSpectrum_real_getElem? {m k : ℕ} {frame : List ℝ} (h : frame.length = m) (hk : k < m) :
    (magnitudeSpectrum realNumerics m frame)[k]? = some (‖windowedBin m frame k‖ / m) := by
  simp [magnitudeSpectrum_real h, hk]

theorem windowedBin_mirror {m k : ℕ} (hk : k < m) (frame : List ℝ) :
    windowedBin m frame (m - k) = (starRingEnd ℂ) (windowedBin m frame k) := by
  simp [windowedBin, twiddle_mirror hk]

theorem windowedBin_scale (m k : ℕ) (g : ℝ) (frame : List ℝ) :
    windowedBin m (frame.map (g * ·)) k = g * windowedBin m frame k := by
  have hsample (i : ℕ) : (frame.map (g * ·)).getD i 0 = g * frame.getD i 0 := by
    simpa using List.getD_map (l := frame) (d := 0) (n := i) (g * ·)
  simp only [windowedBin, hsample, Finset.mul_sum]
  refine Finset.sum_congr rfl fun i _ => ?_
  push_cast
  ring

end Bins

/-- Settles O51: the two bins are conjugate. -/
theorem spectrumMirrored : Obligations.SpectrumMirrored := by
  intro m k frame hlength hk hkm
  rw [magnitudeSpectrum_real_getElem? hlength hkm, magnitudeSpectrum_real_getElem? hlength (by omega),
    windowedBin_mirror hkm, Complex.norm_conj]

/-- Settles O52: the transform of the window is linear. -/
theorem spectrumScalesWithAmplitude : Obligations.SpectrumScalesWithAmplitude := by
  intro m g frame hlength
  rw [magnitudeSpectrum_real hlength, magnitudeSpectrum_real (by simpa using hlength), List.map_map]
  refine List.map_congr_left fun k _ => ?_
  simp [windowedBin_scale, mul_div_assoc]

/-! ## A constant frame (R113 (d)) -/

section ConstantFrame

/-- Bin `k` of the transform of the window's own weights. -/
noncomputable def windowBin (m k : ℕ) : ℂ :=
  ∑ i ∈ Finset.range m, (hannWeight realNumerics m i : ℝ) * twiddle m k i

/-- A constant comes out of the transform: the bins of the window are left. -/
theorem windowedBin_replicate (m k : ℕ) (c : ℝ) : windowedBin m (List.replicate m c) k = c * windowBin m k := by
  rw [windowedBin, windowBin, Finset.mul_sum]
  refine Finset.sum_congr rfl fun i hi => ?_
  rw [List.getD_replicate c (Finset.mem_range.1 hi)]
  push_cast
  ring

/-- At DC nothing turns: the bin is the sum of the weights. -/
theorem windowBin_dc {m : ℕ} (hm : 3 ≤ m) : windowBin m 0 = (((m : ℝ) - 1) / 2 : ℝ) := by
  simp only [windowBin, twiddle_dc, mul_one, ← Complex.ofReal_sum, sum_hannWeight_real hm]

/-- No bin exceeds the sum of the weights: the triangle inequality. -/
theorem norm_windowBin_le {m : ℕ} (hm : 3 ≤ m) (k : ℕ) : ‖windowBin m k‖ ≤ ((m : ℝ) - 1) / 2 :=
  calc ‖windowBin m k‖ ≤ ∑ i ∈ Finset.range m, ‖(hannWeight realNumerics m i : ℝ) * twiddle m k i‖ := norm_sum_le ..
    _ = ∑ i ∈ Finset.range m, hannWeight realNumerics m i := by simp [abs_of_nonneg, hannWeight_real_nonneg]
    _ = ((m : ℝ) - 1) / 2 := sum_hannWeight_real hm

theorem neg_one_pow_reflect {h j : ℕ} (hj : j < 2 * h) : (-1 : ℂ) ^ (2 * h - 1 - j) = -(-1) ^ j := by
  have hodd : Odd (2 * h - 1 - j + j) := ⟨h - 1, by omega⟩
  rcases j.even_or_odd with heven | hodd'
  · rw [heven.neg_one_pow, (Nat.odd_add.1 hodd |>.2 heven).neg_one_pow]
  · rw [hodd'.neg_one_pow, (Nat.odd_add'.1 hodd |>.1 hodd').neg_one_pow, neg_neg]

/-- At the Nyquist bin the samples `i` and `m − 1 − i` have one weight and opposite signs. -/
theorem windowBin_nyquist {h : ℕ} (hh : 0 < h) : windowBin (2 * h) h = 0 := by
  have hself : windowBin (2 * h) h = -windowBin (2 * h) h := by
    nth_rw 1 [windowBin]
    rw [← Finset.sum_range_reflect, windowBin, ← Finset.sum_neg_distrib]
    refine Finset.sum_congr rfl fun j hj => ?_
    have hj' : j < 2 * h := Finset.mem_range.1 hj
    rw [twiddle_nyquist hh, twiddle_nyquist hh, neg_one_pow_reflect hj',
      hannWeight_real_reflect (by omega) hj', mul_neg]
  exact self_eq_neg.1 hself

end ConstantFrame

/-- Settles O53: the triangle inequality bounds every bin by the sum of the weights, which DC reaches. -/
theorem constantFrameConcentratesAtDc : Obligations.ConstantFrameConcentratesAtDc := by
  intro m c hm
  have hm' : (m : ℝ) ≠ 0 := by exact_mod_cast (by omega : m ≠ 0)
  have hlength : (List.replicate m c).length = m := List.length_replicate
  have hnorm (k : ℕ) : ‖windowedBin m (List.replicate m c) k‖ = |c| * ‖windowBin m k‖ := by
    rw [windowedBin_replicate, norm_mul, Complex.norm_real, Real.norm_eq_abs]
  have hsum : 0 ≤ ((m : ℝ) - 1) / 2 := (norm_nonneg _).trans (norm_windowBin_le (by omega) 0)
  have hdc : |c| * ((m : ℝ) - 1) / (2 * m) = |c| * (((m : ℝ) - 1) / 2) / m := by field_simp
  rw [hdc]
  refine ⟨?_, ?_, fun heven => ?_⟩
  · rw [magnitudeSpectrum_real_getElem? hlength (by omega), hnorm, windowBin_dc (by omega),
      Complex.norm_real, Real.norm_of_nonneg hsum]
  · intro x hx
    rw [magnitudeSpectrum_real hlength] at hx
    obtain ⟨k, _, rfl⟩ := List.mem_map.1 hx
    rw [hnorm]
    gcongr
    exact norm_windowBin_le (by omega) k
  · obtain ⟨h, rfl⟩ : ∃ h, m = 2 * h := ⟨m / 2, by omega⟩
    rw [Nat.mul_div_cancel_left h two_pos, magnitudeSpectrum_real_getElem? hlength (by omega),
      hnorm, windowBin_nyquist (by omega), norm_zero, mul_zero, zero_div]

/-! ## Silence (R113 (e), R123, R124) -/

section Silence

theorem sum_replicate_zero_real (n : ℕ) : sum realNumerics (List.replicate n 0) = 0 := by
  have hstart : realNumerics.lit 0 = 0 := Rat.cast_zero
  rw [sum, hstart]
  induction n with
  | zero => rfl
  | succ n ih => rw [List.replicate_succ, List.foldl_cons, show realNumerics.add 0 0 = 0 from add_zero 0, ih]

/-- A band of silence averages nothing, the empty band included (R123). -/
theorem bandAverage_silence (m lo hi : ℕ) : bandAverage realNumerics (List.replicate m 0) lo hi = 0 := by
  unfold bandAverage
  split_ifs with hbins
  · rw [List.drop_replicate, List.take_replicate, sum_replicate_zero_real]
    exact zero_div _
  · exact Rat.cast_zero

/-- The floor of R124. -/
theorem decibels_real_zero : decibels realNumerics 0 = -200 := by
  have hlog : Real.logb 10 (1 / 10 ^ 10) = -10 := by
    rw [one_div, Real.logb_inv, Real.logb_pow, Real.logb_self_eq_one (by norm_num)]
    norm_num
  simp only [decibels, realNumerics, zero_add]
  push_cast
  rw [hlog]
  norm_num

theorem magnitudeSpectrum_silence (m : ℕ) :
    magnitudeSpectrum realNumerics m (List.replicate m 0) = List.replicate m 0 := by
  rw [magnitudeSpectrum_real List.length_replicate]
  simp [windowedBin_replicate]

end Silence

/-- Settles O54: every bin and every average of silence is zero, whatever the bins, and zero is −200 dB. -/
theorem silenceIsMinusTwoHundred : Obligations.SilenceIsMinusTwoHundred := by
  intro m lo hi hlength
  refine ⟨magnitudeSpectrum_silence m, ?_⟩
  simp only [bandMap, bandAverage_silence, decibels_real_zero]
  apply List.ext_getElem
  · simp [hlength]
  · simp

end Sys2Proof.Proofs


/-! The Band Mapper (R120 to R127): the boundaries at NUM_real as a geometric sequence from f_lo to f_hi, the bins of a
band where no clamp acts, and the decibels of an average. -/

namespace Sys2Proof.Proofs

open Sys2Proof Sys2Proof.Machine

/-! ## The boundaries of the bands (R120, R125) -/

section Boundaries

/-- Two bands that are neighbours share the boundary between them, whatever NUM is. -/
theorem bandHighs_getElem?_eq_bandLows_succ {V : Type} (num : Numerics V) (fLo fHi : V) {n b : ℕ} (hb : b + 1 < n) :
    (bandHighs num fLo fHi n)[b]? = (bandLows num fLo fHi n)[b + 1]? := by
  simp [bandHighs, bandLows, hb, Nat.lt_of_succ_lt hb]

variable {fLo fHi : ℝ} {rate : ℕ}

theorem one_lt_ratio_of_realBounds (hbounds : RealBounds fLo fHi rate) : 1 < fHi / fLo := by
  obtain ⟨hlo, hlt, _⟩ := hbounds
  exact (one_lt_div hlo).2 hlt

/-- R120's formula over the real numbers, as a power of the ratio of the two ends. -/
theorem bandBoundary_real (hbounds : RealBounds fLo fHi rate) (n k : ℕ) :
    bandBoundary realNumerics fLo fHi n k = fLo * (fHi / fLo) ^ ((k : ℝ) / n) := by
  obtain ⟨hlo, hlt, _⟩ := hbounds
  have hhi : 0 < fHi := hlo.trans hlt
  calc bandBoundary realNumerics fLo fHi n k
      = Real.exp (Real.log fLo + (Real.log fHi - Real.log fLo) * ((k : ℝ) / n)) := rfl
    _ = fLo * (fHi / fLo) ^ ((k : ℝ) / n) := by
      rw [Real.exp_add, Real.exp_log hlo, Real.rpow_def_of_pos (div_pos hhi hlo), Real.log_div hhi.ne' hlo.ne']

theorem bandBoundary_real_pos (n k : ℕ) : 0 < bandBoundary realNumerics fLo fHi n k :=
  Real.exp_pos _

theorem bandBoundary_real_zero (hbounds : RealBounds fLo fHi rate) (n : ℕ) :
    bandBoundary realNumerics fLo fHi n 0 = fLo := by
  simp [bandBoundary_real hbounds]

theorem bandBoundary_real_last {n : ℕ} (hbounds : RealBounds fLo fHi rate) (hn : 0 < n) :
    bandBoundary realNumerics fLo fHi n n = fHi := by
  have hn' : (n : ℝ) ≠ 0 := by exact_mod_cast hn.ne'
  rw [bandBoundary_real hbounds, div_self hn', Real.rpow_one, mul_div_cancel₀ fHi hbounds.1.ne']

/-- The boundaries are a geometric sequence. -/
theorem bandBoundary_real_succ (hbounds : RealBounds fLo fHi rate) (n k : ℕ) :
    bandBoundary realNumerics fLo fHi n (k + 1) =
      bandBoundary realNumerics fLo fHi n k * (fHi / fLo) ^ ((1 : ℝ) / n) := by
  have hratio : 0 < fHi / fLo := one_pos.trans (one_lt_ratio_of_realBounds hbounds)
  rw [bandBoundary_real hbounds, bandBoundary_real hbounds, Nat.cast_succ, add_div, Real.rpow_add hratio, mul_assoc]

theorem bandBoundary_real_strictMono {n : ℕ} (hbounds : RealBounds fLo fHi rate) (hn : 0 < n) :
    StrictMono (bandBoundary realNumerics fLo fHi n) := by
  have hratio : 1 < (fHi / fLo) ^ ((1 : ℝ) / n) :=
    Real.one_lt_rpow (one_lt_ratio_of_realBounds hbounds) (by positivity)
  refine strictMono_nat_of_lt_succ fun k => ?_
  rw [bandBoundary_real_succ hbounds]
  exact lt_mul_of_one_lt_right (bandBoundary_real_pos n k) hratio

end Boundaries

/-- Settles O56: neighbours read one element of one sequence of boundaries, which at NUM_real is geometric from f_lo to
f_hi. -/
theorem boundariesPartitionTheRange : Obligations.BoundariesPartitionTheRange := by
  refine ⟨fun num fLo fHi n b hb => bandHighs_getElem?_eq_bandLows_succ num fLo fHi hb, ?_⟩
  intro fLo fHi rate n hbounds hn
  refine ⟨bandBoundary_real_zero hbounds n, bandBoundary_real_last hbounds hn, fun k => ⟨?_, ?_⟩⟩
  · exact bandBoundary_real_strictMono hbounds hn k.lt_succ_self
  · rw [bandBoundary_real_succ hbounds, mul_div_cancel_left₀ _ (bandBoundary_real_pos n k).ne']

/-! ## The bins of a band (R121, R127) -/

section Bins

variable {rate m : ℕ} {f : ℝ}

theorem lowBinOf_real (hf : 0 ≤ ⌊f / rate * m⌋) (hfm : ⌊f / rate * m⌋ < m) :
    (lowBinOf realNumerics rate m f : ℤ) = ⌊f / rate * m⌋ :=
  calc (lowBinOf realNumerics rate m f : ℤ)
      = (⌊f / rate * m⌋.toNat : ℕ) := congrArg _ (clampBin_of_mem m _ hf hfm)
    _ = ⌊f / rate * m⌋ := Int.toNat_of_nonneg hf

theorem highBinOf_real (hf : 0 ≤ ⌈f / rate * m⌉) (hfm : ⌈f / rate * m⌉ < m) :
    (highBinOf realNumerics rate m f : ℤ) = ⌈f / rate * m⌉ :=
  calc (highBinOf realNumerics rate m f : ℤ)
      = (⌈f / rate * m⌉.toNat : ℕ) := congrArg _ (clampBin_of_mem m _ hf hfm)
    _ = ⌈f / rate * m⌉ := Int.toNat_of_nonneg hf

/-- A frequency up to half the sample rate lies at or below the Nyquist bin. -/
theorem ceil_binPosition_le_nyquist (hrate : 0 < rate) (heven : m % 2 = 0) (hf : f ≤ (rate : ℝ) / 2) :
    ⌈f / rate * m⌉ ≤ (m / 2 : ℕ) := by
  have hrate' : (0 : ℝ) < rate := by exact_mod_cast hrate
  have hhalf : (m : ℝ) = 2 * (m / 2 : ℕ) := by exact_mod_cast (by omega : m = 2 * (m / 2))
  refine Int.ceil_le.2 ?_
  calc f / rate * m ≤ rate / 2 / rate * m := by gcongr
    _ = (m / 2 : ℕ) := by rw [hhalf]; field_simp
    _ = ((m / 2 : ℕ) : ℤ) := (Int.cast_natCast _).symm

end Bins

/-- Settles O57: the boundaries of a band lie between 0 and half the sample rate, so both its bin numbers lie between 0
and `m / 2` before the clamp; the positions of two different frequencies have a floor and a ceiling that differ. -/
theorem everyBandHasItsBins : Obligations.EveryBandHasItsBins := by
  intro fLo fHi rate m n b hbounds hm heven hb lo hi
  have hn : 0 < n := by omega
  have ⟨_, _, hhalf⟩ := hbounds
  have hmono := bandBoundary_real_strictMono hbounds hn
  have hlo : 0 < lo := bandBoundary_real_pos n b
  have hlt : lo < hi := hmono b.lt_succ_self
  have hnyquist : hi ≤ (rate : ℝ) / 2 :=
    calc hi ≤ bandBoundary realNumerics fLo fHi n n := hmono.monotone hb
      _ = fHi := bandBoundary_real_last hbounds hn
      _ ≤ rate / 2 := hhalf
  have hrate : 0 < rate := by
    have hrate' : (0 : ℝ) < rate := by linarith
    exact_mod_cast hrate'
  have hfloor : 0 ≤ ⌊lo / rate * m⌋ := Int.floor_nonneg.2 (by positivity)
  have hbins : ⌊lo / rate * m⌋ < ⌈hi / rate * m⌉ := Int.floor_lt_ceil_of_lt (by gcongr)
  have hceil : ⌈hi / rate * m⌉ ≤ (m / 2 : ℕ) := ceil_binPosition_le_nyquist hrate heven hnyquist
  have hlow : (lowBinOf realNumerics rate m lo : ℤ) = ⌊lo / rate * m⌋ := lowBinOf_real hfloor (by omega)
  have hhigh : (highBinOf realNumerics rate m hi : ℤ) = ⌈hi / rate * m⌉ :=
    highBinOf_real (hfloor.trans hbins.le) (by omega)
  exact ⟨hlow, hhigh, by omega, by omega⟩

/-! ## Decibels (R124) -/

/-- Of two averages that are not negative the larger has more decibels. -/
theorem decibels_real_strictMonoOn : StrictMonoOn (decibels realNumerics) (Set.Ici 0) := by
  intro a ha b _ hab
  have hpos : (0 : ℝ) < a + (1 / 10 ^ 10 : ℚ) := add_pos_of_nonneg_of_pos ha (by norm_num)
  have hlog : Real.logb 10 (a + (1 / 10 ^ 10 : ℚ)) < Real.logb 10 (b + (1 / 10 ^ 10 : ℚ)) :=
    Real.logb_lt_logb (by norm_num) hpos (by gcongr)
  exact mul_lt_mul_of_pos_left hlog (by norm_num [realNumerics])

/-- Settles O55: −200 dB is the value at an average of zero, and the decibels rise from there. -/
theorem decibelsBoundedBelow : Obligations.DecibelsBoundedBelow := by
  refine ⟨decibels_real_zero, fun a b ha hab => ⟨?_, ?_⟩⟩
  · rw [← decibels_real_zero]
    exact decibels_real_strictMonoOn.monotoneOn Set.self_mem_Ici ha ha
  · exact decibels_real_strictMonoOn ha (ha.trans hab.le) hab

end Sys2Proof.Proofs


/-! The Temporal Smoother at NUM_real (R130, R132): one step shrinks the distance to the new value by the factor α, and
answers a convex combination of the old value and the new one. -/

namespace Sys2Proof.Proofs

open Sys2Proof Sys2Proof.Machine

section Smoothing

/-- R130's formula over the real numbers. -/
theorem smooth_real (alpha old new : ℝ) :
    smooth realNumerics alpha old new = alpha * old + (1 - alpha) * new := by
  simp [smooth, realNumerics]

/-- One step keeps the side of the new value and scales the distance to it. -/
theorem smooth_real_sub_new (alpha old new : ℝ) :
    smooth realNumerics alpha old new - new = alpha * (old - new) := by
  rw [smooth_real]
  ring

/-- Each of `n` steps toward one value scales the distance to it once. -/
theorem iterate_smooth_real_sub_new (alpha old new : ℝ) (n : ℕ) :
    (fun y => smooth realNumerics alpha y new)^[n] old - new = alpha ^ n * (old - new) := by
  induction n with
  | zero => simp
  | succ n ih => rw [Function.iterate_succ_apply', smooth_real_sub_new, ih, pow_succ', mul_assoc]

end Smoothing

/-- Settles O58: the distance to the constant, which every frame scales by α, is a geometric sequence. -/
theorem smoothingClosedForm : Obligations.SmoothingClosedForm := by
  intro alpha s x n
  have hdistance := iterate_smooth_real_sub_new alpha s x n
  linarith

/-- Settles O59: for a legal α the two weights α and 1 − α are not negative and sum to 1. -/
theorem smoothingStaysBetween : Obligations.SmoothingStaysBetween := by
  intro alpha old new hnonneg hlt
  have hweight : 0 ≤ 1 - alpha := sub_nonneg.2 hlt.le
  have hsum : alpha + (1 - alpha) = 1 := add_sub_cancel alpha 1
  rw [smooth_real]
  exact ⟨Convex.min_le_combo old new hnonneg hweight hsum, Convex.combo_le_max old new hnonneg hweight hsum⟩

end Sys2Proof.Proofs


/-! Run control (R140 to R149): the legality table and the changes of MODE, the control signals, and START with its
validation. -/

namespace Sys2Proof.Proofs

open Sys2Proof Sys2Proof.Machine

/-! ## The control signals and NOP (R140, R145 to R147) -/

section Signals

variable {s : State}

theorem exec_nop (hmode : s.mode ≠ .fault) : exec (.nop 0 0) s = .next (respond (encode (.nop 0 0)) .ok 0 s) :=
  congrArg _ (gate_of_wellFormed (.nop 0 0) s _ hmode rfl)

theorem exec_pause (hmode : s.mode = .running) :
    exec (.pause 0 0) s = .next (respond (encode (.pause 0 0)) .ok 2 (setMode .paused s)) := by
  have hgate := gate_of_wellFormed (.pause 0 0) s (h := by simp [hmode]) (hw := rfl)
  rw [exec, execPause, hgate, if_pos hmode]

theorem exec_resume (hmode : s.mode = .paused) :
    exec (.resume 0 0) s = .next (respond (encode (.resume 0 0)) .ok 1 (setMode .running s)) := by
  have hgate := gate_of_wellFormed (.resume 0 0) s (h := by simp [hmode]) (hw := rfl)
  rw [exec, execResume, hgate, if_pos hmode]

theorem exec_quit (hmode : s.mode = .running ∨ s.mode = .paused) :
    exec (.quit 0 0) s = .next (respond (encode (.quit 0 0)) .ok 3 (setMode .stopped s)) := by
  have hgate := gate_of_wellFormed (.quit 0 0) s (h := by rcases hmode with h | h <;> simp [h]) (hw := rfl)
  rw [exec, execQuit, hgate, if_pos hmode]

end Signals

/-- Settles O22. -/
theorem controlSignalsMoveTheMode : Obligations.ControlSignalsMoveTheMode :=
  ⟨fun _ => exec_pause, fun _ => exec_resume, fun _ => exec_quit⟩

/-- Settles O23. -/
theorem nopDoesNothing : Obligations.NopDoesNothing := fun _ => exec_nop

/-! ## START (R142, R144) -/

section Start

variable {s : State}

theorem exec_start_of_legal (hmode : s.mode = .idle) (hlegal : validate s.params s.cfg = 0) :
    exec (.start 0 0) s = .next (respond (encode (.start 0 0)) .ok 0 (started s)) := by
  have hgate := gate_of_wellFormed (.start 0 0) s (h := by simp [hmode]) (hw := rfl)
  rw [exec, execStart, hgate, if_neg (not_not.2 hmode), if_neg (not_not.2 hlegal)]

theorem exec_start_of_illegal (hmode : s.mode = .idle) (hillegal : validate s.params s.cfg ≠ 0) :
    exec (.start 0 0) s = .next (respond (encode (.start 0 0)) .cfgInvalid (validate s.params s.cfg)
      (setErrCode (validate s.params s.cfg) s)) := by
  have hgate := gate_of_wellFormed (.start 0 0) s (h := by simp [hmode]) (hw := rfl)
  rw [exec, execStart, hgate, if_neg (not_not.2 hmode), if_pos hillegal]

/-- The bins of R121 are computed from the boundaries as they stand in BFLO and BFHI. -/
theorem initialise_bins (s : State) :
    (initialise s).lowBin = (List.range s.cfg.numBands.toNat).map (fun b =>
      lowBinOf s.num s.cfg.sampleRate.toNat s.cfg.fftSize.toNat
        (bandBoundary s.num s.cfg.fLo (s.cfg.highBound s.num) s.cfg.numBands.toNat b)) ∧
    (initialise s).highBin = (List.range s.cfg.numBands.toNat).map (fun b =>
      highBinOf s.num s.cfg.sampleRate.toNat s.cfg.fftSize.toNat
        (bandBoundary s.num s.cfg.fLo (s.cfg.highBound s.num) s.cfg.numBands.toNat (b + 1))) :=
  ⟨List.map_map, List.map_map⟩

end Start

/-- Settles O25: the band table of `started` is that of R120 and R121, one band at a time. -/
theorem startConstructsPipeline : Obligations.StartConstructsPipeline := by
  intro s hmode hlegal n m rate fHi
  obtain ⟨hlow, hhigh⟩ := initialise_bins s
  rw [exec_start_of_legal hmode hlegal, ← hlow, ← hhigh]
  rfl

/-- Settles O26. -/
theorem startRefusedWritesOnlyErrcode : Obligations.StartRefusedWritesOnlyErrcode :=
  fun _ => exec_start_of_illegal

/-! ## Validation (R143) -/

section Checks

/-- Check 1 of R143: clearing the lowest bit leaves nothing exactly when the size is a power of two. -/
theorem fftSizeLegal_iff {maxFft : Nat} {x : Word32} :
    fftSizeLegal maxFft x = true ↔ (∃ k, x.toNat = 2 ^ k) ∧ 2 ≤ x.toNat ∧ x.toNat ≤ maxFft := by
  simp only [fftSizeLegal, Bool.and_eq_true, bne_iff_ne, beq_iff_eq, decide_eq_true_eq, and_assoc]
  by_cases hx : x = 0
  · simp [hx]
  have hpos : x.toNat ≠ 0 := fun h => hx (BitVec.eq_of_toNat_eq h)
  have hpred : (x - 1).toNat = x.toNat - 1 := BitVec.toNat_sub_of_le (Nat.one_le_iff_ne_zero.2 hpos)
  have hpow : x &&& (x - 1) = 0 ↔ ∃ k, x.toNat = 2 ^ k := by
    rw [← BitVec.toNat_inj, BitVec.toNat_and, hpred]
    exact Nat.and_sub_one_eq_zero_iff_isPowerOfTwo hpos
  rw [hpow]
  exact and_iff_right hx

variable {num : Numerics F} {c : Cfg}

theorem boundsLegal_iff : boundsLegal num c = true ↔
    num.lt (num.lit 0) c.fLo = true ∧ num.lt c.fLo (c.highBound num) = true ∧
      num.le (c.highBound num) (num.div (num.ofNat c.sampleRate.toNat) (num.lit 2)) = true := by
  simp only [boundsLegal, Bool.and_eq_true, and_assoc]

/-- The lower boundaries of the bands and the upper ones together are all boundaries, if there is a band. -/
theorem boundariesFinite_iff (hn : c.numBands.toNat ≠ 0) : boundariesFinite num c = true ↔
    ∀ k ≤ c.numBands.toNat,
      num.isFinite (bandBoundary num c.fLo (c.highBound num) c.numBands.toNat k) = true := by
  simp only [boundariesFinite, bandLows, bandHighs, Bool.and_eq_true, List.all_map, List.all_eq_true, List.mem_range,
    Function.comp_apply]
  refine ⟨fun ⟨hlows, hhighs⟩ k hk => ?_, fun h => ⟨fun k hk => h k hk.le, fun k hk => h (k + 1) hk⟩⟩
  cases k with
  | zero => exact hlows 0 (Nat.pos_of_ne_zero hn)
  | succ k => exact hhighs k hk

end Checks

/-- Settles O27: each condition of the table is the negation of its check, and the checks come in the table's order. -/
theorem validationReportsFirstFailure : Obligations.ValidationReportsFirstFailure := by
  intro p c num fHi e1 e2 e3 e4 e5 e6
  have check1 : (!fftSizeLegal p.maxFft c.fftSize) = true ↔ e1 := by
    rw [Bool.not_eq_true', ← Bool.not_eq_true, fftSizeLegal_iff]
  have check2 : (c.numBands = 0 ∨ p.maxBands < c.numBands.toNat) ↔ e2 := or_congr_left BitVec.toNat_inj.symm
  have check3 : c.sampleRate = 0 ↔ e3 := BitVec.toNat_inj.symm
  have check4 : (c.channels = 0 ∨ p.maxCh < c.channels.toNat) ↔ e4 := or_congr_left BitVec.toNat_inj.symm
  have check5 : (!(num.le (num.lit 0) c.alpha && num.lt c.alpha (num.lit 1))) = true ↔ e5 := by
    rw [Bool.not_eq_true', ← Bool.not_eq_true, Bool.and_eq_true]
  have check6 (h2 : ¬ e2) : (!(boundsLegal num c && boundariesFinite num c)) = true ↔ e6 := by
    rw [Bool.not_eq_true', ← Bool.not_eq_true, Bool.and_eq_true, boundsLegal_iff,
      boundariesFinite_iff (fun hn => h2 (.inl hn)), not_and_or]
    simp only [not_forall, Bool.not_eq_true, exists_prop, e6, fHi]
  simp only [validate]
  refine ⟨fun h1 => ?_, fun h1 h2 => ?_, fun h1 h2 h3 => ?_, fun h1 h2 h3 h4 => ?_, fun h1 h2 h3 h4 h5 => ?_,
    fun h1 h2 h3 h4 h5 h6 => ?_, fun h1 h2 h3 h4 h5 h6 => ?_⟩
  · rw [if_pos (check1.2 h1)]; rfl
  all_goals rw [if_neg (check1.not.2 h1)]
  · rw [if_pos (check2.2 h2)]; rfl
  all_goals rw [if_neg (check2.not.2 h2)]
  · rw [if_pos (check3.2 h3)]; rfl
  all_goals rw [if_neg (check3.not.2 h3)]
  · rw [if_pos (check4.2 h4)]; rfl
  all_goals rw [if_neg (check4.not.2 h4)]
  · rw [if_pos (check5.2 h5)]; rfl
  all_goals rw [if_neg (check5.not.2 h5)]
  · rw [if_pos ((check6 h2).2 h6)]; rfl
  · rw [if_neg ((check6 h2).not.2 h6)]

/-! ## The legality table (R148) -/

/-- The statuses R148's table gives a command that is not run. -/
def isRefusal (st : Status) : Bool := st = .badMode || st = .notAccepted || st = .faulted

/-- The statuses a command's own rule may answer, other than FAULT_TAKEN (R148). -/
def isOwnAnswer (st : Status) : Bool :=
  st = .ok || st = .notReady || st = .badIndex || st = .notValid || st = .badValue || st = .cfgInvalid

/-- How a command fares under R148: R75's fault comes first, then the table refuses the command or has it run, and a
command that runs gives an answer of its own or faults. -/
inductive Fares (s : State) (i : Instr) : State → Prop where
  | illFormed (hwf : i.wellFormed = false) (hmode : s.mode ≠ .fault) :
      Fares s i (takeFault (encode i) ErrCode.fBadField s)
  | illFormedInFault (hwf : i.wellFormed = false) (hmode : s.mode = .fault) :
      Fares s i (respond (encode i) .faulted s.errCode s)
  | refused (st : Status) (hentry : refusedIn i s.mode = some st) (hst : isRefusal st = true) :
      Fares s i (respond (encode i) st (refusalData s st) s)
  | runs (t : State) (st : Status) (d : Word32) (hentry : refusedIn i s.mode = none) (hst : isOwnAnswer st = true)
      (hport : t.responsePort = s.responsePort) : Fares s i (respond (encode i) st d t)
  | faults (c : Word32) (hentry : refusedIn i s.mode = none) : Fares s i (takeFault (encode i) c s)

theorem isRefusal_of_isOwnAnswer {st : Status} : isOwnAnswer st = true → isRefusal st = false := by
  cases st <;> decide

section Legality

variable {s t : State} {i : Instr} {idx : Index} {d : Word32} {body : State → State}

/-! ### The rows of the table, each by the modes that run the command -/

theorem refusedIn_nop (m : Mode) : refusedIn (.nop idx d) m = if m = .fault then some .faulted else none := by
  cases m <;> rfl

theorem refusedIn_wrcfg (m : Mode) : refusedIn (.wrcfg idx d) m =
    if m = .idle then none else if m = .fault then some .faulted else some .badMode := by
  cases m <;> rfl

theorem refusedIn_start (m : Mode) : refusedIn (.start idx d) m =
    if m = .idle then none else if m = .fault then some .faulted else some .badMode := by
  cases m <;> rfl

theorem refusedIn_pause (m : Mode) : refusedIn (.pause idx d) m =
    if m = .running then none else if m = .fault then some .faulted else some .badMode := by
  cases m <;> rfl

theorem refusedIn_resume (m : Mode) : refusedIn (.resume idx d) m =
    if m = .paused then none else if m = .fault then some .faulted else some .badMode := by
  cases m <;> rfl

theorem refusedIn_quit (m : Mode) : refusedIn (.quit idx d) m =
    if m = .running ∨ m = .paused then none else if m = .fault then some .faulted else some .badMode := by
  cases m <;> rfl

/-- The row of the seven array reads. -/
theorem refusedIn_rdsm (m : Mode) : refusedIn (.rdsm idx d) m =
    if m = .idle then some .badMode else if m = .fault then some .faulted else none := by
  cases m <;> rfl

/-! ### How each command fares -/

theorem fares_gate (hrow : refusedIn i .fault = some .faulted) (hbody : s.mode ≠ .fault → Fares s i (body s)) :
    Fares s i (gate i s body) := by
  rcases gate_cases i s body with ⟨hmode, h⟩ | ⟨hmode, hwf, h⟩ | ⟨hmode, _, h⟩ <;> rw [h]
  · exact .refused .faulted (hmode ▸ hrow) rfl
  · exact .illFormed hwf hmode
  · exact hbody hmode

theorem fares_gateInFault (hbody : Fares s i (body s)) : Fares s i (gateInFault i s body) := by
  rcases gateInFault_cases i s body with ⟨_, h⟩ | ⟨hwf, hmode, h⟩ | ⟨hwf, hmode, h⟩ <;> rw [h]
  · exact hbody
  · exact .illFormedInFault hwf hmode
  · exact .illFormed hwf hmode

theorem fares_badMode (hentry : refusedIn i s.mode = some .badMode) : Fares s i (answerBadMode (encode i) s) :=
  .refused .badMode hentry rfl

theorem fares_notAccepted (hentry : refusedIn i s.mode = some .notAccepted) :
    Fares s i (respond (encode i) .notAccepted s.mode.code s) :=
  .refused .notAccepted hentry rfl

theorem fares_readArray (len : Word32) (needsFrame : Bool) (value : Word32)
    (hrow : ∀ m, refusedIn i m = refusedIn (.rdsm 0 0) m) : Fares s i (readArray i len needsFrame value s) := by
  refine fares_gate (hrow .fault) fun hfault => ?_
  split_ifs with hidle
  · exact fares_badMode (by rw [hrow, refusedIn_rdsm, if_pos hidle])
  all_goals exact .runs s _ _ (by rw [hrow, refusedIn_rdsm, if_neg hidle, if_neg hfault]) rfl rfl

/-- Every command fares as R148 says. -/
theorem fares_of_exec (h : exec i s = .next t) : Fares s i t := by
  cases i with
  | nop =>
    cases h
    exact fares_gate rfl fun hfault => .runs s _ _ (by rw [refusedIn_nop, if_neg hfault]) rfl rfl
  | reset =>
    cases h
    exact fares_gateInFault (.runs (applyReset s) _ _ rfl rfl rfl)
  | rdreg =>
    cases h
    refine fares_gateInFault ?_
    split <;> exact .runs s _ _ rfl rfl rfl
  | wrcfg idx d =>
    cases h
    refine fares_gate rfl fun hfault => ?_
    split_ifs with hidle
    · exact fares_badMode (by rw [refusedIn_wrcfg, if_neg hidle, if_neg hfault])
    have hentry : refusedIn (.wrcfg idx d) s.mode = none := by rw [refusedIn_wrcfg, if_pos (not_not.1 hidle)]
    split
    · exact .runs s _ _ hentry rfl rfl
    split_ifs
    · exact .runs s _ _ hentry rfl rfl
    split
    · exact .runs s _ _ hentry rfl rfl
    · exact .runs (setCfg _ s) _ _ hentry rfl rfl
  | start idx d =>
    cases h
    refine fares_gate rfl fun hfault => ?_
    split_ifs with hidle
    · exact fares_badMode (by rw [refusedIn_start, if_neg hidle, if_neg hfault])
    all_goals have hentry : refusedIn (.start idx d) s.mode = none := by rw [refusedIn_start, if_pos (not_not.1 hidle)]
    · exact .runs (setErrCode _ s) _ _ hentry rfl rfl
    · exact .runs (started s) _ _ hentry rfl rfl
  | pause =>
    cases h
    refine fares_gate rfl fun hfault => ?_
    split_ifs with hrunning
    · exact .runs (setMode .paused s) _ _ (by rw [refusedIn_pause, if_pos hrunning]) rfl rfl
    · exact fares_badMode (by rw [refusedIn_pause, if_neg hrunning, if_neg hfault])
  | resume =>
    cases h
    refine fares_gate rfl fun hfault => ?_
    split_ifs with hpaused
    · exact .runs (setMode .running s) _ _ (by rw [refusedIn_resume, if_pos hpaused]) rfl rfl
    · exact fares_badMode (by rw [refusedIn_resume, if_neg hpaused, if_neg hfault])
  | quit =>
    cases h
    refine fares_gate rfl fun hfault => ?_
    split_ifs with hruns
    · exact .runs (setMode .stopped s) _ _ (by rw [refusedIn_quit, if_pos hruns]) rfl rfl
    · exact fares_badMode (by rw [refusedIn_quit, if_neg hruns, if_neg hfault])
  | push =>
    cases h
    refine fares_gate rfl fun hfault => ?_
    split
    case h_1 hmode | h_2 hmode => exact fares_badMode (by rw [hmode]; rfl)
    case h_3 hmode => exact fares_notAccepted (by rw [hmode]; rfl)
    case h_4 hmode =>
      split
      · exact .faults _ (by rw [hmode]; rfl)
      · exact .runs (storeSample _ s) _ _ (by rw [hmode]; rfl) rfl rfl
    case h_5 hmode => exact absurd hmode hfault
  | frame =>
    cases h
    refine fares_gate rfl fun hfault => ?_
    split
    case h_1 hmode | h_2 hmode => exact fares_badMode (by rw [hmode]; rfl)
    case h_3 hmode => exact fares_notAccepted (by rw [hmode]; rfl)
    case h_4 hmode =>
      split_ifs
      · exact .runs s _ _ (by rw [hmode]; rfl) rfl rfl
      · exact .runs (storeFrame (analyse s) s) _ _ (by rw [hmode]; rfl) rfl rfl
      · exact .faults _ (by rw [hmode]; rfl)
    case h_5 hmode => exact absurd hmode hfault
  | rdsm | rddb | rdmag | rdblo | rdbhi | rdflo | rdfhi =>
    cases h
    exact fares_readArray _ _ _ fun m => by cases m <;> rfl

/-- A well-formed command the table refuses is answered the entry and does nothing else (R148). -/
theorem exec_of_refused {st : Status} (hwf : i.wellFormed = true) (hentry : refusedIn i s.mode = some st) :
    exec i s = .next (respond (encode i) st (refusalData s st) s) := by
  obtain ⟨t, hexec⟩ := exec_next i s
  rw [hexec]
  cases fares_of_exec hexec with
  | illFormed hill | illFormedInFault hill => cases hwf.symm.trans hill
  | refused _ hentry' => cases hentry.symm.trans hentry'; rfl
  | runs _ _ _ hentry' | faults _ hentry' => cases hentry.symm.trans hentry'

/-- A well-formed command the table has run is not answered a refusal (R148). -/
theorem answer_of_runs (hwf : i.wellFormed = true) (hentry : refusedIn i s.mode = none) (hexec : exec i s = .next t) :
    ∃ st d, t.responsePort = s.responsePort ++ [responseWord (encode i) st d] ∧ isRefusal st = false := by
  cases fares_of_exec hexec with
  | illFormed hill | illFormedInFault hill => cases hwf.symm.trans hill
  | refused _ hentry' => cases hentry.symm.trans hentry'
  | runs u st d _ hst hport => exact ⟨st, d, by rw [respond_responsePort, hport], isRefusal_of_isOwnAnswer hst⟩
  | faults c => exact ⟨.faultTaken, c, rfl, rfl⟩

end Legality

/-- Settles O20: the table's refusals, its runs, and the two faults that come before it. -/
theorem legalityTable : Obligations.LegalityTable := by
  refine ⟨fun i s st => exec_of_refused, fun i s t hwf hentry hexec => ?_, fun s cw rest hmode hport hbad => ?_⟩
  · obtain ⟨st, d, hanswer, hst⟩ := answer_of_runs hwf hentry hexec
    refine ⟨st, d, hanswer, ?_, ?_, ?_⟩ <;> (rintro rfl; cases hst)
  · rcases hbad with hreserved | ⟨i, hdecode, hwf⟩
    · refine ⟨_, ErrCode.fIllegalOp, step_of_reserved hport hreserved, ?_⟩
      rw [illegalOpcode, if_neg hmode]
      exact ⟨rfl, rfl⟩
    · obtain rfl := encode_of_decode hdecode
      exact ⟨_, ErrCode.fBadField, (step_of_decode hport hdecode).trans (exec_of_badField hwf hmode), rfl, rfl⟩

/-! ## The changes of MODE (R149) -/

section Transitions

variable {s t : State} {i : Instr}

/-- The mode after a command does not depend on what waits behind it at the port. -/
theorem mode_of_commandComes {m : Mode} (h : commandComes s i)
    (hexec : ∀ rest, ∃ t, exec i { s with commandPort := rest } = .next t ∧ t.mode = m) :
    ∃ t, step s = .next t ∧ t.mode = m := by
  obtain ⟨rest, hport⟩ := h
  rw [step_of_decode hport (decode_encode i)]
  exact hexec rest

/-- R141, R220: both resets lead to IDLE from every mode. -/
theorem mode_of_reset (h : resetComes s) : ∃ t, step s = .next t ∧ t.mode = .idle := by
  rcases h with ⟨rest, hport⟩ | hcommand
  · exact ⟨_, by rw [step, fetch?_command s _ rest hport], rfl⟩
  · exact mode_of_commandComes hcommand fun _ => ⟨_, rfl, rfl⟩

theorem mode_of_start (hmode : s.mode = .idle) (h : commandComes s (.start 0 0)) :
    ∃ t, step s = .next t ∧ t.mode = if validate s.params s.cfg = 0 then .running else .idle := by
  split_ifs with hlegal
  · exact mode_of_commandComes h fun _ => ⟨_, exec_start_of_legal hmode hlegal, rfl⟩
  · exact mode_of_commandComes h fun _ => ⟨_, exec_start_of_illegal hmode hlegal, hmode⟩

theorem mode_of_illegalOpcode (cw : Word64) (s : State) : (illegalOpcode cw s).mode = .fault := by
  rcases illegalOpcode_cases cw s with ⟨hmode, h⟩ | ⟨_, h⟩ <;> rw [h]
  · exact hmode
  · rfl

theorem eq_faultTaken_of_code {st : Status} (h : st.code = Status.faultTaken.code) : st = .faultTaken := by
  cases st with
  | faultTaken => rfl
  | _ => exact absurd h (by decide)

/-- Two answers after the same responses agree in their status field (R71). -/
theorem eq_faultTaken_of_answer {rws : List Word64} {cw cw' : Word64} {st : Status} {x x' : Word32}
    (h : rws ++ [responseWord cw st x] = rws ++ [responseWord cw' .faultTaken x']) : st = .faultTaken := by
  rw [List.append_cancel_left_eq, List.singleton_inj] at h
  exact eq_faultTaken_of_code (by rw [← opField_responseWord cw st x, h, opField_responseWord])

/-- FAULT_TAKEN is answered by nothing but a fault entry (R194). -/
theorem mode_of_faultTaken {cw : Word64} {c : Word32} (h : Fares s i t)
    (hanswer : t.responsePort = s.responsePort ++ [responseWord cw .faultTaken c]) : t.mode = .fault := by
  cases h with
  | illFormed | faults => rfl
  | illFormedInFault _ hmode => exact hmode
  | refused st _ hst => obtain rfl := eq_faultTaken_of_answer hanswer; cases hst
  | runs t st _ _ hst hport =>
    rw [respond_responsePort, hport] at hanswer
    obtain rfl := eq_faultTaken_of_answer hanswer
    cases hst

theorem mode_of_step_faultTaken {cw : Word64} {c : Word32} (hstep : step s = .next t)
    (hanswer : t.responsePort = s.responsePort ++ [responseWord cw .faultTaken c]) : t.mode = .fault := by
  rcases step_cases hstep with ⟨_, rfl⟩ | ⟨_, _, rfl⟩ | ⟨i, _, hport, _⟩ | ⟨cw', _, _, rfl⟩
  · exact absurd hanswer (by simp)
  · exact absurd hanswer (by simp)
  · have hexec := (step_of_decode hport (decode_encode i)).symm.trans hstep
    exact mode_of_faultTaken (fares_of_exec hexec) hanswer
  · exact mode_of_illegalOpcode ..

end Transitions

/-- Settles O21: the changes of MODE are read off the effects a step can have; the events each have their mode. -/
theorem modeTransitionsComplete : Obligations.ModeTransitionsComplete := by
  refine ⟨fun s t hstep => ?_, fun s => mode_of_reset, fun s => mode_of_start,
    fun s hmode h => mode_of_commandComes h fun _ => ⟨_, exec_pause hmode, rfl⟩,
    fun s hmode h => mode_of_commandComes h fun _ => ⟨_, exec_resume hmode, rfl⟩,
    fun s hmode h => mode_of_commandComes h fun _ => ⟨_, exec_quit hmode, rfl⟩,
    fun s t cw c => mode_of_step_faultTaken⟩
  rcases step_cases hstep with ⟨_, rfl⟩ | ⟨rest, hport, rfl⟩ | ⟨i, rest, hport, heffect⟩ | ⟨cw, rest, _, rfl⟩
  · exact .inl rfl
  · exact .inr (.inl ⟨.inl ⟨rest, hport⟩, rfl⟩)
  · cases heffect with
    | resets => exact .inr (.inl ⟨.inr ⟨rest, hport⟩, rfl⟩)
    | starts hmode hlegal => exact .inr (.inr (.inl ⟨hmode, ⟨rest, hport⟩, hlegal, rfl⟩))
    | pauses hmode => exact .inr (.inr (.inr (.inl ⟨hmode, ⟨rest, hport⟩, rfl⟩)))
    | resumes hmode => exact .inr (.inr (.inr (.inr (.inl ⟨hmode, ⟨rest, hport⟩, rfl⟩))))
    | quits hmode => exact .inr (.inr (.inr (.inr (.inr (.inl ⟨hmode, ⟨rest, hport⟩, rfl⟩)))))
    | faults _ _ hmode hcode => exact .inr (.inr (.inr (.inr (.inr (.inr ⟨hmode, rfl, hcode⟩)))))
    | _ => exact .inl rfl
  · rcases illegalOpcode_cases cw { s with commandPort := rest } with ⟨_, h⟩ | ⟨hmode, h⟩ <;> rw [h]
    · exact .inl rfl
    · exact .inr (.inr (.inr (.inr (.inr (.inr ⟨hmode, rfl, rfl⟩)))))

/-! ## PUSH and FRAME between PAUSE and RESUME (R145, R229) -/

section Paused

variable {s : State} {i : Instr}

/-- The table's entry for PUSH and FRAME in PAUSED. -/
theorem exec_of_paused (hmode : s.mode = .paused) (hi : i = .frame 0 0 ∨ ∃ d, i = .push 0 d) :
    exec i s = .next (respond (encode i) .notAccepted 2 s) := by
  have hrow : i.wellFormed = true ∧ refusedIn i .paused = some .notAccepted := by
    rcases hi with rfl | ⟨d, rfl⟩ <;> exact ⟨rfl, rfl⟩
  obtain ⟨hwf, hentry⟩ := hrow
  have hdata : refusalData s .notAccepted = 2 := congrArg Mode.code hmode
  rw [exec_of_refused hwf (hmode ▸ hentry), hdata]

end Paused

/-- Settles O24, by induction on the commands that reach the paused engine: each is answered and leaves the engine as it
was, with the others still to come. -/
theorem pauseThenResumeContinues : Obligations.PauseThenResumeContinues := by
  intro s cs hmode hcs hport
  induction cs generalizing s with
  | nil =>
    have hstep := (step_of_decode hport (decode_encode _)).trans (exec_resume hmode)
    rw [List.length_nil, List.map_nil, List.append_nil]
    exact run_succ_of_step (M := core) hstep 0
  | cons i cs ih =>
    obtain ⟨hi, hrest⟩ := List.forall_mem_cons.1 hcs
    have hstep := (step_of_decode hport (decode_encode i)).trans (exec_of_paused hmode hi)
    have hanswers : s.responsePort ++ [responseWord (encode i) .notAccepted 2] ++
        cs.map (fun i => responseWord (encode i) .notAccepted 2) =
        s.responsePort ++ (i :: cs).map (fun i => responseWord (encode i) .notAccepted 2) := by
      rw [List.append_assoc, List.singleton_append, List.map_cons]
    rw [← hanswers]
    exact (run_succ_of_step (M := core) hstep _).trans (ih _ hmode hrest rfl)

end Sys2Proof.Proofs


/-! Register and array access: WRCFG in IDLE stores or refuses (R32, R51, R150), RDREG answers every register (R151), and
an array read in range answers the element (R152 to R158). -/

namespace Sys2Proof.Proofs

open Sys2Proof Sys2Proof.Machine

/-! ## Array reads in range (R152 to R158) -/

section ArrayReads

variable {s : State} {i : Instr} {len : Word32} {needsFrame : Bool}

/-- An array read that passes the checks of R193 answers the value. -/
theorem readArray_of_inRange (value : Word32) (hmode : s.mode = .running ∨ s.mode = .paused ∨ s.mode = .stopped)
    (hwf : i.wellFormed = true) (hidx : i.idx.toNat < len.toNat) (hframe : needsFrame = true → s.resValid = true) :
    readArray i len needsFrame value s = respond (encode i) .ok value s := by
  obtain ⟨hidle, hfault⟩ : s.mode ≠ .idle ∧ s.mode ≠ .fault := by
    rcases hmode with hmode | hmode | hmode <;> simp [hmode]
  have hvalid : ¬ (needsFrame && !s.resValid) = true := by simpa using hframe
  rw [readArray, gate_of_wellFormed i s _ hfault hwf, if_neg hidle, if_neg (Nat.not_le.2 hidx), if_neg hvalid]

/-- A read in range of an array as long as it should be answers an element, and not the value of an absent one. -/
theorem exec_arrayRead_of_inRange {α : Type} {xs : List α} {absent : α} (word : α → Word32)
    (hexec : exec i s = .next (readArray i len needsFrame (word (xs.getD i.idx.toNat absent)) s))
    (hmode : s.mode = .running ∨ s.mode = .paused ∨ s.mode = .stopped) (hwf : i.wellFormed = true)
    (hidx : i.idx.toNat < len.toNat) (hframe : needsFrame = true → s.resValid = true) (hlen : xs.length = len.toNat) :
    ∃ v, xs[i.idx.toNat]? = some v ∧ exec i s = .next (respond (encode i) .ok (word v) s) := by
  have hmem : i.idx.toNat < xs.length := hlen ▸ hidx
  refine ⟨xs[i.idx.toNat], List.getElem?_eq_getElem hmem, ?_⟩
  rw [hexec, readArray_of_inRange _ hmode hwf hidx hframe, List.getD_eq_getElem xs absent hmem]

end ArrayReads

/-- Settles O41: the invariant gives every array the length its read checks the index against. -/
theorem arrayReadsAnswerTheElement : Obligations.ArrayReadsAnswerTheElement := by
  intro s idx hinv hmode
  have hbuilt := hinv.constructed hmode
  have hresults (hres : s.resValid = true) :
      s.rawDb.length = s.cfg.numBands.toNat ∧ s.mag.length = s.cfg.fftSize.toNat := by
    simpa only [hres, if_true] using hinv.results
  have noFrame : false = true → s.resValid = true := nofun
  refine ⟨fun hidx => ⟨?sm, ?lowBin, ?highBin, ?bfLo, ?bfHi, fun hres => ?rawDb⟩, fun hidx hres => ?mag⟩
  case sm => exact exec_arrayRead_of_inRange (i := .rdsm idx 0) s.num.toBits rfl hmode rfl hidx noFrame hbuilt.sm
  case lowBin => exact exec_arrayRead_of_inRange (i := .rdblo idx 0) _ rfl hmode rfl hidx noFrame hbuilt.lowBin
  case highBin => exact exec_arrayRead_of_inRange (i := .rdbhi idx 0) _ rfl hmode rfl hidx noFrame hbuilt.highBin
  case bfLo => exact exec_arrayRead_of_inRange (i := .rdflo idx 0) s.num.toBits rfl hmode rfl hidx noFrame hbuilt.bfLo
  case bfHi => exact exec_arrayRead_of_inRange (i := .rdfhi idx 0) s.num.toBits rfl hmode rfl hidx noFrame hbuilt.bfHi
  case rawDb =>
    obtain ⟨hlen, _⟩ := hresults hres
    exact exec_arrayRead_of_inRange (i := .rddb idx 0) s.num.toBits rfl hmode rfl hidx (fun _ => hres) hlen
  case mag =>
    obtain ⟨_, hlen⟩ := hresults hres
    exact exec_arrayRead_of_inRange (i := .rdmag idx 0) s.num.toBits rfl hmode rfl hidx (fun _ => hres) hlen

/-! ## WRCFG in IDLE (R150) -/

section Wrcfg

variable {s : State} {idx : Index} {d : Word32} {r : Reg} {c : Cfg} {num : Numerics F}

theorem isConfigReg_of_write {c' : Cfg} (hwrite : c.write num r d = some c') : isConfigReg r = true := by
  cases r with
  | mode | status | errCode | errCmdHi | errCmdLo | winLen | pushCnt | frameCnt => cases hwrite
  | _ => rfl

/-- WRCFG has no unused field, so in IDLE neither check before its body stops it (R193). -/
theorem gate_wrcfg_of_idle {body : State → State} (hmode : s.mode = .idle) : gate (.wrcfg idx d) s body = body s :=
  gate_of_wellFormed _ s body (by simp [hmode]) (wellFormed_wrcfg idx d)

theorem exec_wrcfg_of_write (hmode : s.mode = .idle) (hreg : regOfNumber? idx = some r)
    (hwrite : s.cfg.write s.num r d = some c) :
    exec (.wrcfg idx d) s = .next (respond (encode (.wrcfg idx d)) .ok d (setCfg c s)) := by
  simp [exec, execWrcfg, gate_wrcfg_of_idle hmode, hmode, hreg, isConfigReg_of_write hwrite, hwrite]

theorem exec_wrcfg_of_badIndex (hmode : s.mode = .idle)
    (hreg : ∀ r, regOfNumber? idx = some r → isConfigReg r = false) :
    exec (.wrcfg idx d) s = .next (respond (encode (.wrcfg idx d)) .badIndex 0 s) := by
  cases hnumber : regOfNumber? idx with
  | none => simp [exec, execWrcfg, gate_wrcfg_of_idle hmode, hmode, hnumber]
  | some r => simp [exec, execWrcfg, gate_wrcfg_of_idle hmode, hmode, hnumber, hreg r hnumber]

theorem exec_wrcfg_of_badValue (hmode : s.mode = .idle) (hreg : regOfNumber? idx = some r)
    (hconfig : isConfigReg r = true) (hwrite : s.cfg.write s.num r d = none) :
    exec (.wrcfg idx d) s = .next (respond (encode (.wrcfg idx d)) .badValue 0 s) := by
  simp [exec, execWrcfg, gate_wrcfg_of_idle hmode, hmode, hreg, hconfig, hwrite]

/-- The numbers from 0 to 8 are those of the configuration registers (R51). -/
theorem exists_configReg (h : idx.toNat ≤ 8) :
    ∃ r, regOfNumber? idx = some r ∧ r.number = idx ∧ isConfigReg r = true := by
  obtain ⟨r, hreg⟩ : ∃ r, regOfNumber? idx = some r := by
    unfold regOfNumber?
    generalize idx.toNat = n at h
    interval_cases n <;> exact ⟨_, rfl⟩
  have hnumber := number_of_regOfNumber? hreg
  exact ⟨r, hreg, hnumber.symm, decide_eq_true (hnumber ▸ h)⟩

/-- The reserved bits of CFGFLAGS are those above bit 0 (R32). -/
theorem reservedFlags_eq_zero_iff : d.extractLsb' 1 31 = 0 ↔ d = 0 ∨ d = 1 := by
  have hd := d.isLt
  simp only [← BitVec.toNat_inj, BitVec.extractLsb'_toNat, Nat.shiftRight_eq_div_pow, BitVec.ofNat_eq_ofNat,
    BitVec.toNat_ofNat]
  omega

theorem write_cfgFlags_of_flag (hd : d = 0 ∨ d = 1) : c.write num .cfgFlags d = some { c with cfgFlags := d } :=
  if_pos (reservedFlags_eq_zero_iff.2 hd)

theorem write_cfgFlags_of_reservedBit (h0 : d ≠ 0) (h1 : d ≠ 1) : c.write num .cfgFlags d = none :=
  if_neg (mt reservedFlags_eq_zero_iff.1 (not_or.2 ⟨h0, h1⟩))

/-- The F registers, by their numbers (R51), hold no NaN and no infinity (R150). -/
theorem write_of_nonFinite (hlow : 4 ≤ r.number.toNat) (hhigh : r.number.toNat ≤ 7)
    (hd : isNonFiniteWord d = true) : c.write num r d = none := by
  cases r with
  | minDb | alpha | fLo | fHi => simp only [Cfg.write, ofBits?_of_nonFinite num hd, Option.map_none]
  | fftSize | numBands | sampleRate | channels => exact absurd hlow (by decide)
  | _ => exact absurd hhigh (by decide)

/-- What a write of a finite word does to an F register, `store` being the field it stores in. -/
theorem map_ofBits?_of_finite (store : F → Cfg) (hd : isNonFiniteWord d = false) :
    (ofBits? s.num d).map store = some (store (finiteValue s d)) := by
  rw [ofBits?_of_finite s hd, Option.map_some]

end Wrcfg

/-- Settles O35, register by register. -/
theorem wrcfgStoresTheValue : Obligations.WrcfgStoresTheValue := by
  intro s d hmode
  refine ⟨?fftSize, ?numBands, ?sampleRate, ?channels, fun hd => ⟨?minDb, ?alpha, ?fLo, ?fHi⟩, fun hd => ?cfgFlags⟩
  case fftSize => exact exec_wrcfg_of_write (r := .fftSize) hmode rfl rfl
  case numBands => exact exec_wrcfg_of_write (r := .numBands) hmode rfl rfl
  case sampleRate => exact exec_wrcfg_of_write (r := .sampleRate) hmode rfl rfl
  case channels => exact exec_wrcfg_of_write (r := .channels) hmode rfl rfl
  case minDb => exact exec_wrcfg_of_write (r := .minDb) hmode rfl (map_ofBits?_of_finite _ hd)
  case alpha => exact exec_wrcfg_of_write (r := .alpha) hmode rfl (map_ofBits?_of_finite _ hd)
  case fLo => exact exec_wrcfg_of_write (r := .fLo) hmode rfl (map_ofBits?_of_finite _ hd)
  case fHi => exact exec_wrcfg_of_write (r := .fHi) hmode rfl (map_ofBits?_of_finite _ hd)
  case cfgFlags => exact exec_wrcfg_of_write (r := .cfgFlags) hmode rfl (write_cfgFlags_of_flag hd)

/-- Settles O36: a number above 8 names no configuration register, and the other two writes give no configuration. -/
theorem wrcfgRefusals : Obligations.WrcfgRefusals := by
  intro s idx d hmode
  refine ⟨fun hidx => ?_, fun hlow hhigh hd => ?_, ?_⟩
  · refine exec_wrcfg_of_badIndex hmode fun r hreg => ?_
    obtain rfl := number_of_regOfNumber? hreg
    exact decide_eq_false (Nat.not_le.2 hidx)
  · obtain ⟨r, hreg, rfl, hconfig⟩ := exists_configReg (idx := idx) (by omega)
    exact exec_wrcfg_of_badValue hmode hreg hconfig (write_of_nonFinite hlow hhigh hd)
  · rintro rfl h0 h1
    exact exec_wrcfg_of_badValue (r := .cfgFlags) hmode rfl rfl (write_cfgFlags_of_reservedBit h0 h1)

/-! ## RDREG (R151) -/

/-- Settles O37: the pairs are the numbers and the readings of all registers, and a number names its register. -/
theorem rdregAnswersTheRegister : Obligations.RdregAnswersTheRegister := by
  intro s
  have hread : ∀ p ∈ allRegs.map fun r => (r.number, s.readReg r), exec (.rdreg p.1 0) s = .next
      (respond (encode (.rdreg p.1 0)) .ok p.2 s) :=
    List.forall_mem_map.2 fun r _ => exec_rdreg s (regOfNumber?_number r)
  exact hread

end Sys2Proof.Proofs


/-! The host protocol: between commands, with nothing at its port, the engine rests (R170). -/

namespace Sys2Proof.Proofs

open Sys2Proof Sys2Proof.Machine

/-- With nothing at the port the fetch finds nothing, and the step keeps the whole state. -/
theorem step_of_empty {s : State} (hport : s.commandPort = []) : step s = .next s := by
  rw [step, fetch?_empty s hport]

/-- Settles O12. -/
theorem nothingHappensBetweenCommands : Obligations.NothingHappensBetweenCommands := fun _ => step_of_empty

end Sys2Proof.Proofs


/-! Exceptions, reset and hazards (R190 to R229): the entry into FAULT and what FAULT lets through, the two resets, the
refusals of an array read, and a second FRAME on the same window. -/

namespace Sys2Proof.Proofs

open Sys2Proof Sys2Proof.Machine

/-! ## FAULT is left by reset alone (R195, R196) -/

section FaultLasts

variable {s t : State} {i : Instr} {cw : Word64} {rest : List PortEvent}

/-- The other effects of a command belong to other modes, so in FAULT all that is left is an answer or a reset. -/
theorem answers_of_effect_in_fault (hmode : s.mode = .fault) (hi : i ≠ .reset 0 0) (h : Effect s i t) :
    ∃ st d, t = respond (encode i) st d s := by
  cases h with
  | answers _ st d => exact ⟨st, d, rfl⟩
  | resets => exact absurd rfl hi
  | faults _ _ hother => exact absurd hmode hother
  | configures _ _ _ _ hother | refusesStart hother | starts hother | pauses hother | resumes hother
  | pushes _ _ hother | frames hother => cases hother.symm.trans hmode
  | quits hother => rcases hother with hother | hother <;> cases hother.symm.trans hmode

/-- In FAULT every word but that of RESET is taken and answered, and nothing else happens. -/
theorem step_answers_in_fault (hmode : s.mode = .fault) (hport : s.commandPort = .command cw :: rest)
    (hcw : cw ≠ resetWord) : ∃ st d, step s = .next (respond cw st d { s with commandPort := rest }) := by
  obtain ⟨t, hstep⟩ := step_next s
  rcases step_cases hstep with ⟨hempty, _⟩ | ⟨_, hreset, _⟩ | ⟨i, _, hcommand, heffect⟩ | ⟨_, _, hword, rfl⟩
  · cases hport.symm.trans hempty
  · cases hport.symm.trans hreset
  · cases hport.symm.trans hcommand
    obtain ⟨st, d, rfl⟩ := answers_of_effect_in_fault (s := { s with commandPort := rest }) hmode
      (fun hi => hcw (congrArg encode hi)) heffect
    exact ⟨st, d, hstep⟩
  · cases hport.symm.trans hword
    rcases illegalOpcode_cases cw { s with commandPort := rest } with ⟨_, h⟩ | ⟨hother, _⟩
    · exact ⟨_, _, h ▸ hstep⟩
    · exact absurd hmode hother

end FaultLasts

/-- Settles O19, by induction on the command words: the first is answered and leaves the state it found, so the run of
the others starts in FAULT again. -/
theorem faultLastsUntilReset : Obligations.FaultLastsUntilReset := by
  intro s cws hmode hport hcws
  induction cws generalizing s with
  | nil =>
    refine ⟨[], ?_⟩
    rw [List.append_nil, ← show s.commandPort = [] from hport]
    rfl
  | cons cw cws ih =>
    obtain ⟨hcw, hrest⟩ := List.forall_mem_cons.1 hcws
    obtain ⟨st, d, hstep⟩ := step_answers_in_fault hmode hport hcw
    obtain ⟨rws, hrun⟩ := ih (respond cw st d { s with commandPort := cws.map .command }) hmode rfl hrest
    refine ⟨responseWord cw st d :: rws, ((run_succ_of_step (M := core) hstep _).trans hrun).trans ?_⟩
    rw [respond_responsePort, List.append_assoc, List.singleton_append]
    rfl

/-! ## The entry into FAULT (R194) -/

section FaultEntry

variable {s t : State} {i : Instr}

theorem isFaultCode_iff {c : Word32} : isFaultCode c = true ↔ c = 0x10 ∨ c = 0x11 ∨ c = 0x12 ∨ c = 0x13 := by
  rw [isFaultCode, decide_eq_true_iff]
  bv_omega

/-- The only effect that ends in mode FAULT is a fault taken. -/
theorem takesFault_of_effect (h : Effect s i t) (hmode : s.mode ≠ .fault) (hfault : t.mode = .fault) :
    ∃ c, isFaultCode c = true ∧ t = takeFault (encode i) c s := by
  cases h with
  | faults _ c _ hcode => exact ⟨c, hcode, rfl⟩
  | resets | starts | pauses | resumes | quits => cases hfault
  | answers | configures | refusesStart | pushes | frames => exact absurd hfault hmode

/-- A step into FAULT takes a command word from the port and the fault for that word. -/
theorem takesFault_of_step (hmode : s.mode ≠ .fault) (hstep : step s = .next t) (hfault : t.mode = .fault) :
    ∃ cw rest c, s.commandPort = .command cw :: rest ∧ isFaultCode c = true ∧
      t = takeFault cw c { s with commandPort := rest } := by
  rcases step_cases hstep with ⟨_, rfl⟩ | ⟨_, _, rfl⟩ | ⟨i, rest, hport, heffect⟩ | ⟨cw, rest, hport, rfl⟩
  · exact absurd hfault hmode
  · cases hfault
  · obtain ⟨c, hcode, ht⟩ := takesFault_of_effect heffect hmode hfault
    exact ⟨encode i, rest, c, hport, hcode, ht⟩
  · exact ⟨cw, rest, ErrCode.fIllegalOp, hport, rfl, if_neg hmode⟩

end FaultEntry

/-- Settles O17: R194's entry is what taking the fault writes. -/
theorem faultEntryIsPrecise : Obligations.FaultEntryIsPrecise := by
  intro s t hmode hstep hfault
  obtain ⟨cw, rest, c, hport, hcode, rfl⟩ := takesFault_of_step hmode hstep hfault
  exact ⟨cw, rest, c, hport, isFaultCode_iff.1 hcode, rfl⟩

/-! ## What FAULT lets through (R193 check 1, R195) -/

section FaultMode

variable {s : State} {i : Instr} {cw : Word64} {rest : List PortEvent}

theorem gateInFault_of_fault (body : State → State) (hmode : s.mode = .fault) (hwf : i.wellFormed = false) :
    gateInFault i s body = answerFaulted (encode i) s := by
  simp [gateInFault, hmode, hwf]

/-- RESET and RDREG are let through only when their unused fields are zero; the gate stops every other command. -/
theorem exec_of_fault (hmode : s.mode = .fault) (hreset : i ≠ .reset 0 0) (hrdreg : ∀ idx, i ≠ .rdreg idx 0) :
    exec i s = .next (answerFaulted (encode i) s) := by
  cases i with
  | reset idx data =>
    refine congrArg _ (gateInFault_of_fault _ hmode (Bool.eq_false_iff.2 fun hwf => ?_))
    obtain ⟨rfl, rfl⟩ : idx = 0 ∧ data = 0 := fields_eq_zero hwf rfl rfl
    exact hreset rfl
  | rdreg idx data =>
    refine congrArg _ (gateInFault_of_fault _ hmode (Bool.eq_false_iff.2 fun hwf => ?_))
    obtain rfl : data = 0 := (wellFormed_iff_of_idx rfl rfl).1 hwf
    exact hrdreg idx rfl
  | _ => exact congrArg _ (gate_of_fault _ s _ hmode)

/-- A word that is neither RESET nor RDREG, be its opcode reserved or not, is answered FAULTED with ERRCODE. -/
theorem step_of_fault (hmode : s.mode = .fault) (hport : s.commandPort = .command cw :: rest)
    (hreset : decode cw ≠ .ok (.reset 0 0)) (hrdreg : ∀ idx, decode cw ≠ .ok (.rdreg idx 0)) :
    step s = .next (answerFaulted cw { s with commandPort := rest }) := by
  cases hreserved : isReservedOpcode (opField cw) with
  | true => rw [step_of_reserved hport hreserved, illegalOpcode, if_pos hmode]
  | false =>
    obtain ⟨i, hdecode⟩ := exists_decode_of_not_reserved hreserved
    rw [hdecode] at hreset hrdreg
    rw [step_of_decode hport hdecode, ← encode_of_decode hdecode]
    exact exec_of_fault hmode (fun h => hreset (congrArg _ h)) fun idx h => hrdreg idx (congrArg _ h)

end FaultMode

/-- RESET runs in every mode (R141). -/
theorem exec_reset (s : State) :
    exec (.reset 0 0) s = .next (respond (encode (.reset 0 0)) .ok 0 (applyReset s)) := rfl

/-- Settles O18: RESET and RDREG run as in every other mode, and the word decides whether RDREG names a register. -/
theorem faultModeLetsOnlyResetAndRdreg : Obligations.FaultModeLetsOnlyResetAndRdreg := by
  intro s cw rest hmode hport s'
  refine ⟨fun hdecode => ?reset, fun idx r hdecode hreg => ?register, fun idx hdecode hreg => ?reserved,
    step_of_fault hmode hport⟩
  case reset => exact ⟨_, (step_of_decode hport hdecode).trans (exec_reset s'), rfl, rfl⟩
  case register =>
    rw [step_of_decode hport hdecode, exec_rdreg s' hreg, encode_of_decode hdecode]
    rfl
  case reserved =>
    rw [step_of_decode hport hdecode, exec_rdreg_reserved s' hreg, encode_of_decode hdecode]
    rfl

/-! ## Reset (R141, R220) -/

/-- The word the RESET command is sent as (R80). -/
theorem encode_reset : encode (.reset 0 0) = 0x0100000000000000#64 := by decide

theorem step_of_hardwareReset {s : State} {rest : List PortEvent} (hport : s.commandPort = .hardwareReset :: rest) :
    step s = .next (applyReset { s with commandPort := rest }) := by
  rw [step, fetch?_command s _ rest hport]

/-- Settles O15. -/
theorem resetHappensInBothWays : Obligations.ResetHappensInBothWays := by
  refine ⟨fun s => ?command, fun s rest hport => step_of_hardwareReset hport⟩
  rw [exec_reset, encode_reset]
  rfl

/-! ## Refused array reads (R193 checks 5 and 6) -/

section RefusedReads

variable {s : State} {i : Instr} {len : Word32} {needsFrame : Bool}

/-- Once START has been accepted, an array read is left with the checks 5 and 6 of R193. -/
theorem readArray_of_pipeline (value : Word32) (hmode : s.mode = .running ∨ s.mode = .paused ∨ s.mode = .stopped)
    (hwf : i.wellFormed = true) : readArray i len needsFrame value s =
      if len.toNat ≤ i.idx.toNat then respond (encode i) .badIndex 0 s
      else if needsFrame && !s.resValid then respond (encode i) .notValid 0 s
      else respond (encode i) .ok value s := by
  obtain ⟨hidle, hfault⟩ : s.mode ≠ .idle ∧ s.mode ≠ .fault := by
    rcases hmode with hmode | hmode | hmode <;> simp [hmode]
  rw [readArray, gate_of_wellFormed i s _ hfault hwf, if_neg hidle]

/-- The index is checked first, so it does not matter whether a frame has filled the array. -/
theorem exec_arrayRead_of_outOfRange {value : Word32} (hexec : exec i s = .next (readArray i len needsFrame value s))
    (hmode : s.mode = .running ∨ s.mode = .paused ∨ s.mode = .stopped) (hwf : i.wellFormed = true)
    (hidx : len.toNat ≤ i.idx.toNat) : exec i s = .next (respond (encode i) .badIndex 0 s) := by
  rw [hexec, readArray_of_pipeline value hmode hwf, if_pos hidx]

theorem exec_arrayRead_of_noFrame {value : Word32} (hexec : exec i s = .next (readArray i len true value s))
    (hmode : s.mode = .running ∨ s.mode = .paused ∨ s.mode = .stopped) (hwf : i.wellFormed = true)
    (hidx : i.idx.toNat < len.toNat) (hres : s.resValid = false) :
    exec i s = .next (respond (encode i) .notValid 0 s) := by
  rw [hexec, readArray_of_pipeline value hmode hwf, if_neg (Nat.not_le.2 hidx), if_pos (by simp [hres])]

end RefusedReads

/-- Settles O42: each of the seven reads is one array read, of the length it checks the index against. -/
theorem arrayReadRefusals : Obligations.ArrayReadRefusals := by
  intro s idx hmode answers
  refine ⟨fun hidx => ⟨?sm, ?rawDb, ?lowBin, ?highBin, ?bfLo, ?bfHi⟩, fun hidx => ?mag,
    fun hidx hres => ?rawDbNotValid, fun hidx hres => ?magNotValid⟩
  case sm | rawDb | lowBin | highBin | bfLo | bfHi | mag => exact exec_arrayRead_of_outOfRange rfl hmode rfl hidx
  case rawDbNotValid | magNotValid => exact exec_arrayRead_of_noFrame rfl hmode rfl hidx hres

/-! ## A second FRAME on the same window (R101, R224) -/

section FrameTwice

variable {s t : State}

theorem exec_frame_of_finite (hmode : s.mode = .running) (hfull : s.win.length = s.cfg.cap)
    (hfinite : allFinite s.num (analyse s) = true) : exec (.frame 0 0) s =
      .next (respond (encode (.frame 0 0)) .ok (s.frameCnt + 1) (storeFrame (analyse s) s)) := by
  rw [exec_frame_of_running hmode, if_neg (not_not.2 hfull), if_pos hfinite]

/-- A FRAME on a full window that leaves the engine running has produced a frame. -/
theorem eq_of_exec_frame (hexec : exec (.frame 0 0) s = .next t) (hmode : s.mode = .running)
    (hfull : s.win.length = s.cfg.cap) (hrunning : t.mode = .running) :
    t = respond (encode (.frame 0 0)) .ok (s.frameCnt + 1) (storeFrame (analyse s) s) := by
  rw [exec_frame_of_running hmode, if_neg (not_not.2 hfull)] at hexec
  split_ifs at hexec <;> cases hexec
  · rfl
  · cases hrunning

/-- The spectrum and the decibels come from the window, the band table and the configuration, which a frame leaves; the
smoothing starts from the SM it wrote (R101). -/
theorem analyse_after_frame (s : State) (cw : Word64) (st : Status) (d : Word32) :
    analyse (respond cw st d (storeFrame (analyse s) s)) =
      { analyse s with sm := smoothAll s.num s.cfg.alpha (analyse s).sm (analyse s).db } := rfl

end FrameTwice

/-- Settles O34: the second FRAME finds the window as full as the first did, and its tentative results are those of the
first, smoothed once more. -/
theorem frameRepeatedSmoothsAgain : Obligations.FrameRepeatedSmoothsAgain := by
  intro s t u hmode hfull hfinite hfirst hsecond hrunning
  rw [exec_frame_of_finite hmode hfull hfinite] at hfirst
  cases hfirst
  obtain rfl := eq_of_exec_frame hsecond hmode hfull hrunning
  rw [analyse_after_frame]
  exact ⟨rfl, rfl, rfl, BitVec.add_assoc s.frameCnt 1 1, rfl⟩

end Sys2Proof.Proofs
